-- ==== Sys2Proof/Word.lean ====
section
/-! DEFINITION. The word of the external debug interface and the offset inside the Debug component. -/

namespace Sys2Proof

/-- The 32-bit data word of an access (R30, R71). -/
abbrev Word := BitVec 32

/-- A byte offset inside the Debug component, `0x000` to `0xFFF` (R53, R104). -/
abbrev Offset := BitVec 12

end Sys2Proof
end

