-- ==== Sys2Proof/Syntax.lean ====
section
/-! DEFINITION. The step labels: one constructor of `Instr` for each row of spec/opcode_table.json (R104, R105). -/

namespace Sys2Proof

/-- The attributes every access carries (R72): through the memory-mapped interface or from a debug
port, and Non-secure or Secure. -/
structure AccessAttr where
  memoryMapped : Bool
  nonSecure : Bool
deriving DecidableEq, Repr, Inhabited

/-- The direction of an access whose row leaves bit [12] free, with the data of a write. A read
carries no data: R104 says its `data32` is ignored. -/
inductive RegOp where
  | read
  | write (data : Word)
deriving DecidableEq, Repr

/-- The argument `k` of CORE_POWER_DOWN (R105): 0 to LowPower, 1 to Off. -/
inductive DownTo where
  | lowPower
  | off
deriving DecidableEq, Repr

/-- The six bits of AUTH_CHANGE's argument (R105, R197), each TRUE for "allowed". -/
structure AuthBits where
  traceS : Bool
  traceNs : Bool
  pmuS : Bool
  pmuNs : Bool
  dbgS : Bool
  dbgNs : Bool
deriving DecidableEq, Repr

/-- A step label that the spec gives a behaviour. The first ten are the debugger's accesses (R104),
the others the environment's events (R105). -/
inductive Instr where
  /-- EDPRSR.RD, R120. -/
  | edprsrRd (acc : AccessAttr)
  /-- EDPRSR.WR, R160. -/
  | edprsrWr (data : Word) (acc : AccessAttr)
  /-- OSLAR_EL1.WR, R163. -/
  | oslarWr (data : Word) (acc : AccessAttr)
  /-- EDLAR.WR, R164. -/
  | edlarWr (data : Word) (acc : AccessAttr)
  /-- DBGBVR.LO, R165. -/
  | dbgbvrLo (n : Nat) (op : RegOp) (acc : AccessAttr)
  /-- DBGBVR.HI, R165. -/
  | dbgbvrHi (n : Nat) (op : RegOp) (acc : AccessAttr)
  /-- DBGBCR, R165. -/
  | dbgbcr (n : Nat) (op : RegOp) (acc : AccessAttr)
  /-- DBGWVR.LO, R165. -/
  | dbgwvrLo (n : Nat) (op : RegOp) (acc : AccessAttr)
  /-- DBGWVR.HI, R165. -/
  | dbgwvrHi (n : Nat) (op : RegOp) (acc : AccessAttr)
  /-- DBGWCR, R165. -/
  | dbgwcr (n : Nat) (op : RegOp) (acc : AccessAttr)
  /-- COLD_RESET, R180. -/
  | coldReset
  /-- WARM_RESET, R181. -/
  | warmReset
  /-- RESET_RELEASE, R182. -/
  | resetRelease
  /-- EXT_DEBUG_RESET, R184. -/
  | extDebugReset
  /-- CORE_POWER_DOWN, R186. -/
  | corePowerDown (k : DownTo)
  /-- CORE_POWER_UP, R187. -/
  | corePowerUp (lost : Bool)
  /-- DEBUG_ENTRY, R177. -/
  | debugEntry
  /-- DEBUG_EXIT, R178. -/
  | debugExit
  /-- PMU_ACCESS_FAIL, R191. -/
  | pmuAccessFail (ns : Bool)
  /-- TRACE_ACCESS_FAIL, R192. -/
  | traceAccessFail (ns : Bool)
  /-- OSLOCK_SW, R194. -/
  | oslockSw (b : Bool)
  /-- OSDLR_WRITE, R193. -/
  | osdlrWrite (b : Bool)
  /-- CORENPDRQ_WRITE, R189. -/
  | corenpdrqWrite (b : Bool)
  /-- AUTH_CHANGE, R197. -/
  | authChange (m : AuthBits)
  /-- TRACE_POWER, R198. -/
  | tracePower (on : Bool)
deriving DecidableEq, Repr

end Sys2Proof
end

