-- ==== Sys2Proof/Config.lean ====
section
/-! DEFINITION. The implementation parameters (R9 to R18) and the free values (R23, R25). -/

namespace Sys2Proof

/-- `DEBUG_VER` (R11) together with `OSLAR_ERR_ON_EDAD` (R15). The second is a free choice only
before ARMv8.2-Debug, so only those two versions carry it: a configuration that R15 excludes cannot
be written. -/
inductive DebugVer where
  /-- `0b0110`, Armv8.0 Debug. -/
  | v8_0 (oslarErrOnEdad : Bool)
  /-- `0b0111`, Armv8.0 Debug with Virtualization Host Extensions. -/
  | v8_0Vhe (oslarErrOnEdad : Bool)
  /-- `0b1000`, Armv8.2 Debug. -/
  | v8_2
  /-- `0b1001`, Armv8.4 Debug. -/
  | v8_4
deriving DecidableEq, Repr, Inhabited

/-- `HAVE_DOPD` (R9) together with `HAVE_SOFTWARE_LOCK` (R13): ARMv8.3-DoPD excludes the Software
Lock, so only an implementation without it says whether it has the lock. -/
inductive DebugPower where
  /-- ARMv8.3-DoPD: everything is in the Core power domain. -/
  | dopd
  /-- A mix of the Debug and Core power domains. -/
  | split (softwareLock : Bool)
deriving DecidableEq, Repr, Inhabited

/-- `DLK_PU_CHOICE` (R14): the IMPLEMENTATION DEFINED reading of PU, DLK and SPD while the core is
powered and double locked, before ARMv8.2-Debug. -/
inductive DlkPuChoice where
  /-- PU reads 1, DLK reads 1, SPD is UNKNOWN. -/
  | a
  /-- PU reads 0, DLK is UNKNOWN, SPD reads 0. -/
  | b
deriving DecidableEq, Repr, Inhabited

/-- `WARM_RESET_REQUEST_EXTENT` (R18). -/
inductive WarmResetExtent where
  | ignored
  | thisPe
  | thisPeAndOthers
deriving DecidableEq, Repr, Inhabited

/-- What one implementation fixes (R62 `Config`). No step changes it. -/
structure Config where
  debugVer : DebugVer
  debugPower : DebugPower
  /-- `HAVE_DOUBLELOCK`, R10. -/
  doubleLock : Bool
  /-- `HAVE_TRBE`, R12. -/
  trbe : Bool
  dlkPuChoice : DlkPuChoice
  /-- `SPD_LOWPOWER_VALUE`, R16. -/
  spdLowPower : Bool
  /-- `SPD_POWERDOWN_VALUE`, R16. -/
  spdPowerdown : Bool
  /-- `DEBUG_BASE`, R17. -/
  debugBase : Nat
  warmResetExtent : WarmResetExtent
deriving DecidableEq, Repr, Inhabited

/-- The fourteen one-bit fields of EDPRSR (R100). -/
inductive Field where
  | stad | etad | sdr | spmad | epmad | sdad | edad | dlk | oslk | halted | sr | r | spd | pu
deriving DecidableEq, Repr

/-- The six stored bits (R32). -/
inductive Sticky where
  | stad | sdr | spmad | sdad | sr | spd
deriving DecidableEq, Repr

/-- The three permission oracles (R47 to R49). -/
inductive Oracle where
  | debug | pmu | trace
deriving DecidableEq, Repr

/-- The places of the spec that ask for a one-bit draw. Each names the rule that does. -/
inductive DrawSite where
  /-- The bit of this field in a read value, where it is UNKNOWN or CONSTRAINED UNPREDICTABLE (R122, R136, R138). -/
  | read (f : Field)
  /-- Whether a read under the Double Lock leaves this stored bit as it was (R142). -/
  | skipClear (b : Sticky)
  /-- SDR after a read made in reset (R144). -/
  | sdrReadInReset
  /-- SDR after a Cold or Warm reset (R180, R181). -/
  | sdrReset
  /-- CORENPDRQ's Cold reset value (R57, R180). -/
  | corenpdrqCold
  /-- Whether a restoring power up reloads CORENPDRQ (R187). -/
  | corenpdrqReload
  /-- What an oracle answers for an access after a reset (R180, R181). -/
  | oracle (o : Oracle) (acc : AccessAttr)
  /-- Whether a failed access sets this sticky error bit when the source does not decide it (R190 to R192). -/
  | maybeSet (b : Sticky)
  /-- The attribute `memory_mapped` of a failing PMU or trace access, which its label does not carry (R191, R192). -/
  | failMemoryMapped
  /-- `trace_powered` in the initial state (R234). -/
  | tracePowered
deriving DecidableEq, Repr

/-- The parameters of the implementation at hand: no body, so a claim about a run from reset holds
for every implementation (R9 to R18, "None has a single value fixed by the source"). -/
opaque Config.implementation : Config

/-- FREE VALUE. One draw of one bit (R23, R25): the bit drawn at a site by the step whose counter is
the first argument. No body: nothing can be proved of it. -/
opaque Config.drawBit : Nat → DrawSite → Bool

/-- FREE VALUE. The word a permitted read of a breakpoint or watchpoint register returns, `ANY_32()`
of R165. -/
opaque Config.drawWord : Nat → Word

end Sys2Proof
end

