-- ==== Sys2Proof/Machine/Features.lean ====
section
/-! DEFINITION. What a configuration implements: the predicates of R9 to R15 over `Config`. -/

namespace Sys2Proof

/-- `HAVE_DOPD` (R9). -/
def Config.haveDopd (c : Config) : Bool :=
  match c.debugPower with
  | .dopd => true
  | .split _ => false

/-- `HAVE_SOFTWARE_LOCK` (R13). -/
def Config.haveSoftwareLock (c : Config) : Bool :=
  match c.debugPower with
  | .dopd => false
  | .split lock => lock

/-- `HAVE_V8_4_DEBUG` (R11). -/
def Config.v84 (c : Config) : Bool :=
  match c.debugVer with
  | .v8_0 _ => false
  | .v8_0Vhe _ => false
  | .v8_2 => false
  | .v8_4 => true

/-- `HAVE_V8_2_DEBUG` (R11): an implementation of ARMv8.4-Debug also implements ARMv8.2-Debug. -/
def Config.v82 (c : Config) : Bool :=
  match c.debugVer with
  | .v8_0 _ => false
  | .v8_0Vhe _ => false
  | .v8_2 => true
  | .v8_4 => true

/-- `OSLAR_ERR_ON_EDAD` (R15), which ARMv8.2-Debug forces. -/
def Config.oslarErrOnEdad (c : Config) : Bool :=
  match c.debugVer with
  | .v8_0 err => err
  | .v8_0Vhe err => err
  | .v8_2 => true
  | .v8_4 => true

/-- The choice A of `DLK_PU_CHOICE` (R14). -/
def Config.choiceA (c : Config) : Bool :=
  match c.dlkPuChoice with
  | .a => true
  | .b => false

/-- The address of an access: `DEBUG_BASE + offset` (R77). -/
def Config.accessAddress (c : Config) (offset : Offset) : Nat := c.debugBase + offset.toNat

end Sys2Proof
end

