-- ==== Sys2Proof/WellFormed.lean ====
section
/-! DEFINITION. Which labels the encoding admits: the register number of a breakpoint or watchpoint access is 0 to 15 (R104, R165). -/

namespace Sys2Proof

/-- The number `n` of a breakpoint or watchpoint register, `OFFSET[7:4]`, is 0 to 15 (R104). -/
def registerNumberOk (n : Nat) : Bool := decide (n < 16)

/-- A label that some word of R104 or R105 encodes. Only the register number can be out of range;
every other operand's type holds exactly the values its bits hold. -/
def Instr.wellFormed : Instr → Bool
  | .edprsrRd _ => true
  | .edprsrWr _ _ => true
  | .oslarWr _ _ => true
  | .edlarWr _ _ => true
  | .dbgbvrLo n _ _ => registerNumberOk n
  | .dbgbvrHi n _ _ => registerNumberOk n
  | .dbgbcr n _ _ => registerNumberOk n
  | .dbgwvrLo n _ _ => registerNumberOk n
  | .dbgwvrHi n _ _ => registerNumberOk n
  | .dbgwcr n _ _ => registerNumberOk n
  | .coldReset => true
  | .warmReset => true
  | .resetRelease => true
  | .extDebugReset => true
  | .corePowerDown _ => true
  | .corePowerUp _ => true
  | .debugEntry => true
  | .debugExit => true
  | .pmuAccessFail _ => true
  | .traceAccessFail _ => true
  | .oslockSw _ => true
  | .osdlrWrite _ => true
  | .corenpdrqWrite _ => true
  | .authChange _ => true
  | .tracePower _ => true

end Sys2Proof
end

