-- ==== Sys2Proof/Decode.lean ====
section
/-! DEFINITION. Raw labels, the decoder of R106 (total, rejecting by name), the encoder, and the opcode table as data. -/

namespace Sys2Proof

/-- How many bytes an access moves. R71 describes `word` (32 bits) only. -/
inductive AccessSize where
  | byte
  | halfword
  | word
  | doubleword
deriving DecidableEq, Repr

/-- A label as the environment offers it, undecoded. The two formats are different types and are
never confused by bit pattern (R106). -/
inductive Label where
  /-- Format XDI (R104): `word13` is `W : OFFSET`. The size is there so that R74's refusal of every
  other size is a behaviour of the decoder. -/
  | xdi (size : AccessSize) (word13 : BitVec 13) (data32 : Word) (acc : AccessAttr)
  /-- Format EVT (R105): `CODE : ARG`. -/
  | evt (word16 : BitVec 16)
deriving DecidableEq, Repr

/-- Why a label is no step of the model. -/
inductive LabelError where
  /-- An access of a size other than 4 bytes (R71, R74). -/
  | accessSize
  /-- An offset that is not word aligned (R73, R74). -/
  | misalignedOffset
  /-- An offset of the Debug block that R79 does not list (R74). -/
  | unlistedOffset
  /-- A read of OSLAR_EL1 or of EDLAR (R74, R163, `93` Z7). -/
  | directionNotDescribed
  /-- A register that R79 lists and this spec gives no behaviour (R74). -/
  | registerWithoutBehaviour
  /-- An event code that R105 leaves unassigned. -/
  | unassignedEventCode
  /-- A non-zero unused `ARG` bit (R105). -/
  | reservedArgBits
deriving DecidableEq, Repr

/-! ### The Debug block (R79) -/

/-- The single-offset registers of the Debug block that R79 lists. -/
def debugBlock : List (Nat × String) :=
  [(0x020, "EDESR"), (0x024, "EDECR"), (0x030, "EDWAR[31:0]"), (0x034, "EDWAR[63:32]"),
   (0x080, "DBGDTRRX_EL0"), (0x084, "EDITR"), (0x088, "EDSCR"), (0x08C, "DBGDTRTX_EL0"),
   (0x090, "EDRCR"), (0x094, "EDACR"), (0x098, "EDECCR"), (0x0A0, "EDPCSR[31:0]"),
   (0x0A4, "EDCIDSR"), (0x0A8, "EDVIDSR"), (0x0AC, "EDPCSR[63:32]"), (0x300, "OSLAR_EL1"),
   (0x310, "EDPRCR"), (0x314, "EDPRSR")] ++
  [(0xD00, "MIDR_EL1"), (0xD20, "EDPFR[31:0]"), (0xD24, "EDPFR[63:32]"), (0xD28, "EDDFR[31:0]"),
   (0xD2C, "EDDFR[63:32]"), (0xD60, "EDAA32PFR"), (0xF00, "EDITCTRL"),
   (0xFA0, "DBGCLAIMSET_EL1"), (0xFA4, "DBGCLAIMCLR_EL1"), (0xFA8, "EDDEVAFF0"),
   (0xFAC, "EDDEVAFF1"), (0xFB0, "EDLAR"), (0xFB4, "EDLSR"), (0xFB8, "DBGAUTHSTATUS_EL1"),
   (0xFBC, "EDDEVARCH")] ++
  [(0xFC0, "EDDEVID2"), (0xFC4, "EDDEVID1"), (0xFC8, "EDDEVID"), (0xFCC, "EDDEVTYPE"),
   (0xFD0, "EDPIDR4"), (0xFE0, "EDPIDR0"), (0xFE4, "EDPIDR1"), (0xFE8, "EDPIDR2"),
   (0xFEC, "EDPIDR3"), (0xFF0, "EDCIDR0"), (0xFF4, "EDCIDR1"), (0xFF8, "EDCIDR2"),
   (0xFFC, "EDCIDR3")]

/-- Does R79 list this offset as a register of its own (the breakpoint and watchpoint rows apart)? -/
def listedOffset (offset : Nat) : Bool := debugBlock.any fun row => row.1 == offset

/-- Why R74 refuses an access at an offset that is none of the labels of R104. -/
def refusedOffset (offset : Nat) : LabelError :=
  if offset % 4 ≠ 0 then .misalignedOffset
  else if offset = 0x300 ∨ offset = 0xFB0 then .directionNotDescribed
  else if listedOffset offset then .registerWithoutBehaviour
  else .unlistedOffset

/-! ### The decoder (R106) -/

/-- `n = OFFSET[7:4]` (R104). -/
def registerNumber (w : BitVec 13) : Nat := (w.extractLsb' 4 4).toNat

/-- `OFFSET`, bits [11:0] of an access word (R104). -/
def accessOffset (w : BitVec 13) : Offset := w.extractLsb' 0 12

/-- `W`, bit [12]: 0 read, 1 write (R104). -/
def accessIsWrite (w : BitVec 13) : Bool := w.getLsbD 12

/-- The direction of an access, with its data if it is a write (R104). -/
def accessOp (w : BitVec 13) (data : Word) : RegOp :=
  if accessIsWrite w then .write data else .read

/-- An access label's instruction (R104, R106), or why R74 refuses it. -/
def decodeXdi (w : BitVec 13) (data : Word) (acc : AccessAttr) : Except LabelError Instr :=
  if w = 0x0314#13 then .ok (.edprsrRd acc)
  else if w = 0x1314#13 then .ok (.edprsrWr data acc)
  else if w = 0x1300#13 then .ok (.oslarWr data acc)
  else if w = 0x1FB0#13 then .ok (.edlarWr data acc)
  else if w &&& 0x0F0F#13 = 0x0400#13 then .ok (.dbgbvrLo (registerNumber w) (accessOp w data) acc)
  else if w &&& 0x0F0F#13 = 0x0404#13 then .ok (.dbgbvrHi (registerNumber w) (accessOp w data) acc)
  else if w &&& 0x0F0F#13 = 0x0408#13 then .ok (.dbgbcr (registerNumber w) (accessOp w data) acc)
  else if w &&& 0x0F0F#13 = 0x0800#13 then .ok (.dbgwvrLo (registerNumber w) (accessOp w data) acc)
  else if w &&& 0x0F0F#13 = 0x0804#13 then .ok (.dbgwvrHi (registerNumber w) (accessOp w data) acc)
  else if w &&& 0x0F0F#13 = 0x0808#13 then .ok (.dbgwcr (registerNumber w) (accessOp w data) acc)
  else .error (refusedOffset (accessOffset w).toNat)

/-- `CODE`, bits [15:8] of an event word (R105). -/
def eventCode (w : BitVec 16) : Nat := (w.extractLsb' 8 8).toNat

/-- `ARG`, bits [7:0] of an event word (R105). -/
def eventArg (w : BitVec 16) : BitVec 8 := w.extractLsb' 0 8

/-- An event without argument: every `ARG` bit must be 0 (R105). -/
def noArg (arg : BitVec 8) (i : Instr) : Except LabelError Instr :=
  if arg = 0#8 then .ok i else .error .reservedArgBits

/-- An event whose argument is bit [0]: `ARG[7:1]` must be 0 (R105). -/
def bitArg (arg : BitVec 8) (f : Bool → Instr) : Except LabelError Instr :=
  if arg &&& 0xFE#8 = 0#8 then .ok (f (arg.getLsbD 0)) else .error .reservedArgBits

/-- AUTH_CHANGE's argument `trace_s : trace_ns : pmu_s : pmu_ns : dbg_s : dbg_ns`, bits [5:0] (R105). -/
def authArg (arg : BitVec 8) : AuthBits :=
  { traceS := arg.getLsbD 5, traceNs := arg.getLsbD 4, pmuS := arg.getLsbD 3,
    pmuNs := arg.getLsbD 2, dbgS := arg.getLsbD 1, dbgNs := arg.getLsbD 0 }

/-- `k` of CORE_POWER_DOWN: 0 to LowPower, 1 to Off (R105). -/
def downTo (k : Bool) : DownTo := if k then .off else .lowPower

/-- An event label's instruction (R105, R106), or why it is refused. -/
def decodeEvt (w : BitVec 16) : Except LabelError Instr :=
  let arg := eventArg w
  match eventCode w with
  | 0x01 => noArg arg .coldReset
  | 0x02 => noArg arg .warmReset
  | 0x03 => noArg arg .resetRelease
  | 0x04 => noArg arg .extDebugReset
  | 0x05 => bitArg arg fun k => .corePowerDown (downTo k)
  | 0x06 => bitArg arg .corePowerUp
  | 0x07 => noArg arg .debugEntry
  | 0x08 => noArg arg .debugExit
  | 0x0A => bitArg arg .pmuAccessFail
  | 0x0B => bitArg arg .traceAccessFail
  | 0x0C => bitArg arg .oslockSw
  | 0x0D => bitArg arg .osdlrWrite
  | 0x0E => bitArg arg .corenpdrqWrite
  | 0x0F => if arg &&& 0xC0#8 = 0#8 then .ok (.authChange (authArg arg)) else .error .reservedArgBits
  | 0x10 => bitArg arg .tracePower
  | _ => .error .unassignedEventCode

/-- The instruction a label stands for (R106), or why the label is outside the model (R74). -/
def decode : Label → Except LabelError Instr
  | .xdi .word w data acc => decodeXdi w data acc
  | .xdi .byte _ _ _ => .error .accessSize
  | .xdi .halfword _ _ _ => .error .accessSize
  | .xdi .doubleword _ _ _ => .error .accessSize
  | .evt w => decodeEvt w

/-! ### The encoder (R104, R105) -/

/-- The access word `W : OFFSET` (R104). -/
def accessWord (write : Bool) (offset : Nat) : BitVec 13 :=
  BitVec.ofNat 13 ((if write then 0x1000 else 0) + offset)

/-- An access whose direction the row leaves free; a read's data word is written as 0. -/
def encodeRegister (offset : Nat) (op : RegOp) (acc : AccessAttr) : Label :=
  match op with
  | .read => .xdi .word (accessWord false offset) 0 acc
  | .write data => .xdi .word (accessWord true offset) data acc

/-- The event word `CODE : ARG` (R105). -/
def eventWord (code arg : Nat) : Label := .evt (BitVec.ofNat 16 (0x100 * code + arg))

/-- AUTH_CHANGE's argument as a number (R105). -/
def AuthBits.toArg (m : AuthBits) : Nat :=
  32 * m.traceS.toNat + 16 * m.traceNs.toNat + 8 * m.pmuS.toNat + 4 * m.pmuNs.toNat +
    2 * m.dbgS.toNat + m.dbgNs.toNat

/-- CORE_POWER_DOWN's argument as a number (R105). -/
def DownTo.toArg : DownTo → Nat
  | .lowPower => 0
  | .off => 1

/-- The label of an instruction, from the encoding tables of R104 and R105. -/
def encode : Instr → Label
  | .edprsrRd acc => .xdi .word (accessWord false 0x314) 0 acc
  | .edprsrWr data acc => .xdi .word (accessWord true 0x314) data acc
  | .oslarWr data acc => .xdi .word (accessWord true 0x300) data acc
  | .edlarWr data acc => .xdi .word (accessWord true 0xFB0) data acc
  | .dbgbvrLo n op acc => encodeRegister (0x400 + 16 * n) op acc
  | .dbgbvrHi n op acc => encodeRegister (0x404 + 16 * n) op acc
  | .dbgbcr n op acc => encodeRegister (0x408 + 16 * n) op acc
  | .dbgwvrLo n op acc => encodeRegister (0x800 + 16 * n) op acc
  | .dbgwvrHi n op acc => encodeRegister (0x804 + 16 * n) op acc
  | .dbgwcr n op acc => encodeRegister (0x808 + 16 * n) op acc
  | .coldReset => eventWord 0x01 0
  | .warmReset => eventWord 0x02 0
  | .resetRelease => eventWord 0x03 0
  | .extDebugReset => eventWord 0x04 0
  | .corePowerDown k => eventWord 0x05 k.toArg
  | .corePowerUp lost => eventWord 0x06 lost.toNat
  | .debugEntry => eventWord 0x07 0
  | .debugExit => eventWord 0x08 0
  | .pmuAccessFail ns => eventWord 0x0A ns.toNat
  | .traceAccessFail ns => eventWord 0x0B ns.toNat
  | .oslockSw b => eventWord 0x0C b.toNat
  | .osdlrWrite b => eventWord 0x0D b.toNat
  | .corenpdrqWrite b => eventWord 0x0E b.toNat
  | .authChange m => eventWord 0x0F m.toArg
  | .tracePower on => eventWord 0x10 on.toNat

/-- A label with what no decoding reads put to 0: the data word of a read (R104). -/
def Label.canonical : Label → Label
  | .xdi size w data acc => .xdi size w (if accessIsWrite w then data else 0) acc
  | .evt w => .evt w

/-! ### The opcode table as data (R104, R105) -/

/-- The two formats of a label (R106). -/
inductive Format where
  | xdi
  | evt
deriving DecidableEq, Repr

/-- A row of spec/opcode_table.json: a word belongs to it when `word &&& mask = pattern`. -/
structure OpcodeRow where
  mnemonic : String
  format : Format
  pattern : Nat
  mask : Nat
deriving DecidableEq, Repr

/-- The ten rows of R104. -/
def xdiRows : List OpcodeRow :=
  [⟨"EDPRSR.RD", .xdi, 0x0314, 0x1FFF⟩, ⟨"EDPRSR.WR", .xdi, 0x1314, 0x1FFF⟩,
   ⟨"OSLAR_EL1.WR", .xdi, 0x1300, 0x1FFF⟩, ⟨"EDLAR.WR", .xdi, 0x1FB0, 0x1FFF⟩,
   ⟨"DBGBVR.LO", .xdi, 0x0400, 0x0F0F⟩, ⟨"DBGBVR.HI", .xdi, 0x0404, 0x0F0F⟩,
   ⟨"DBGBCR", .xdi, 0x0408, 0x0F0F⟩, ⟨"DBGWVR.LO", .xdi, 0x0800, 0x0F0F⟩,
   ⟨"DBGWVR.HI", .xdi, 0x0804, 0x0F0F⟩, ⟨"DBGWCR", .xdi, 0x0808, 0x0F0F⟩]

/-- The fifteen rows of R105. -/
def evtRows : List OpcodeRow :=
  [⟨"COLD_RESET", .evt, 0x0100, 0xFFFF⟩, ⟨"WARM_RESET", .evt, 0x0200, 0xFFFF⟩,
   ⟨"RESET_RELEASE", .evt, 0x0300, 0xFFFF⟩, ⟨"EXT_DEBUG_RESET", .evt, 0x0400, 0xFFFF⟩,
   ⟨"CORE_POWER_DOWN", .evt, 0x0500, 0xFFFE⟩, ⟨"CORE_POWER_UP", .evt, 0x0600, 0xFFFE⟩,
   ⟨"DEBUG_ENTRY", .evt, 0x0700, 0xFFFF⟩, ⟨"DEBUG_EXIT", .evt, 0x0800, 0xFFFF⟩,
   ⟨"PMU_ACCESS_FAIL", .evt, 0x0A00, 0xFFFE⟩, ⟨"TRACE_ACCESS_FAIL", .evt, 0x0B00, 0xFFFE⟩,
   ⟨"OSLOCK_SW", .evt, 0x0C00, 0xFFFE⟩, ⟨"OSDLR_WRITE", .evt, 0x0D00, 0xFFFE⟩,
   ⟨"CORENPDRQ_WRITE", .evt, 0x0E00, 0xFFFE⟩, ⟨"AUTH_CHANGE", .evt, 0x0F00, 0xFFC0⟩,
   ⟨"TRACE_POWER", .evt, 0x1000, 0xFFFE⟩]

/-- The mnemonic of a label's row (R104, R105). -/
def Instr.mnemonic : Instr → String
  | .edprsrRd _ => "EDPRSR.RD"
  | .edprsrWr _ _ => "EDPRSR.WR"
  | .oslarWr _ _ => "OSLAR_EL1.WR"
  | .edlarWr _ _ => "EDLAR.WR"
  | .dbgbvrLo _ _ _ => "DBGBVR.LO"
  | .dbgbvrHi _ _ _ => "DBGBVR.HI"
  | .dbgbcr _ _ _ => "DBGBCR"
  | .dbgwvrLo _ _ _ => "DBGWVR.LO"
  | .dbgwvrHi _ _ _ => "DBGWVR.HI"
  | .dbgwcr _ _ _ => "DBGWCR"
  | .coldReset => "COLD_RESET"
  | .warmReset => "WARM_RESET"
  | .resetRelease => "RESET_RELEASE"
  | .extDebugReset => "EXT_DEBUG_RESET"
  | .corePowerDown _ => "CORE_POWER_DOWN"
  | .corePowerUp _ => "CORE_POWER_UP"
  | .debugEntry => "DEBUG_ENTRY"
  | .debugExit => "DEBUG_EXIT"
  | .pmuAccessFail _ => "PMU_ACCESS_FAIL"
  | .traceAccessFail _ => "TRACE_ACCESS_FAIL"
  | .oslockSw _ => "OSLOCK_SW"
  | .osdlrWrite _ => "OSDLR_WRITE"
  | .corenpdrqWrite _ => "CORENPDRQ_WRITE"
  | .authChange _ => "AUTH_CHANGE"
  | .tracePower _ => "TRACE_POWER"

/-- The rows of the opcode table whose pattern a label's word matches: the table read directly,
without the decoder. -/
def Label.matchingRows : Label → List OpcodeRow
  | .xdi _ w _ _ => xdiRows.filter fun row => w.toNat &&& row.mask == row.pattern
  | .evt w => evtRows.filter fun row => w.toNat &&& row.mask == row.pattern

/-! ### Labels as numbers

A label laid out as one number: the word of R104 or R105 in bits [15:0], `data32` in bits [47:16],
`memory_mapped` in bit [48], `non_secure` in bit [49]. The number carries no format, and both formats
fill 16 bits, so 16-bit numbers are read as an event where R105 has one and as an access otherwise.
DESIGN CHOICE (log 9); the two words 0x0400 and 0x0800 are the only ones both formats assign. -/

/-- Does R105 assign this word? -/
def isEventWord (w : BitVec 16) : Bool :=
  match decodeEvt w with
  | .ok _ => true
  | .error _ => false

/-- The label that a number of `nbits` bits stands for; every bit above `nbits` is 0. -/
def tableLabel (nbits w : Nat) : Label :=
  let v := w % 2 ^ nbits
  let word := BitVec.ofNat 16 v
  let acc : AccessAttr := { memoryMapped := v.testBit 48, nonSecure := v.testBit 49 }
  if 13 < nbits ∧ (isEventWord word = true ∨ 0x2000 ≤ word.toNat) then .evt word
  else .xdi .word (word.setWidth 13) (BitVec.ofNat 32 (v / 2 ^ 16)) acc

/-- The instruction the decoder reads from a number of the opcode table's width. -/
def decodeTableWord (nbits w : Nat) : Option Instr :=
  match decode (tableLabel nbits w) with
  | .ok i => some i
  | .error _ => none

end Sys2Proof
end

