-- ==== Sys2Proof/Machine/State.lean ====
section
/-! DEFINITION. The state of the register and of what it observes (R32, R62), what a step returns, why a step stops, and the initial state (R234). -/

namespace Sys2Proof.Machine

/-- The state of the Core power domain (R41). -/
inductive Power where
  /-- Powerup state. -/
  | on
  /-- Low-power or retention state. -/
  | lowPower
  /-- Powerdown state. -/
  | off
deriving DecidableEq, Repr

/-- A permission oracle `AccessAttr -> Bool` of R47 to R49, as the table of its four values: `dp`
for an access that is not memory-mapped, `mm` for one that is, `S` Secure, `Ns` Non-secure. -/
structure Permission where
  dpS : Bool
  dpNs : Bool
  mmS : Bool
  mmNs : Bool
deriving DecidableEq, Repr

/-- The six stored bits (R32). While the core is not powered they are "lost" (R56): the values kept
here then are read by nothing but a restoring power up (R187). -/
structure Latches where
  /-- Sticky ETAD error (R35). -/
  stad : Bool
  /-- Sticky Debug Restart (R36). -/
  sdr : Bool
  /-- Sticky EPMAD error (R37). -/
  spmad : Bool
  /-- Sticky EDAD error (R38). -/
  sdad : Bool
  /-- Sticky core Reset status (R39). -/
  sr : Bool
  /-- Sticky core Powerdown status (R40). -/
  spd : Bool
deriving DecidableEq, Repr

/-- What EDPRSR observes and does not own (R62 `Env`). -/
structure Env where
  /-- The Core power domain (R41). -/
  power : Power
  /-- The non-debug logic of the PE is in reset state (R42). -/
  inReset : Bool
  /-- The PE entered reset state with the OS Double Lock locked (R42). -/
  resetEnteredDlk : Bool
  /-- The PE is in Debug state (R43). -/
  halted : Bool
  /-- OSDLR_EL1.DLK (R44). -/
  osdlrDlk : Bool
  /-- CORENPDRQ, the bit DBGPRCR_EL1 and EDPRCR share (R44, R57). -/
  corenpdrq : Bool
  /-- OSLSR_EL1.OSLK (R45). -/
  oslk : Bool
  /-- EDLSR.SLK (R46). -/
  slk : Bool
  /-- AllowExternalDebugAccess (R47). -/
  allowDebug : Permission
  /-- AllowExternalPMUAccess (R48). -/
  allowPmu : Permission
  /-- AllowExternalTraceAccess (R49). -/
  allowTrace : Permission
  /-- IsTraceCorePowered (R60). -/
  tracePowered : Bool
deriving DecidableEq, Repr

/-- What the last step returned to the debugger (R31, R62, R203). -/
inductive Response where
  /-- The step was an event, which returns nothing (R170), or no step has been taken. -/
  | nothing
  /-- A write completed without error; it may have been ignored (R203). -/
  | ok
  /-- A read completed with this word. -/
  | value (v : Word)
  /-- The error response (R200): no data, no cause code. -/
  | error
deriving DecidableEq, Repr

/-- The state of the machine. `cfg`, `st` and `env` are R62's `Config`, `Stored` and `Env`.
`response` is what the last step returned. `offered` (the labels the environment still offers,
oldest first) and `draws` (the index of the next free value) are the model's own. -/
structure State where
  cfg : Config
  st : Latches
  env : Env
  response : Response
  offered : List Label
  draws : Nat
deriving DecidableEq, Repr

/-- Why the machine stops. The error response is not among them: the debugger goes on after it
(R206), so it is a next state whose `response` is `error` (log 1). -/
inductive Fault where
  /-- Raised by `step` when no label is offered: the transition system takes no step without one
  (R31). Safe: nothing is claimed of a step that is not taken. -/
  | noStepOffered
deriving DecidableEq, Repr

/-- The events of R171 that have a precondition. -/
inductive GuardedEvent where
  | coldReset | warmReset | resetRelease | corePowerDown | corePowerUp | debugEntry | debugExit
  | pmuAccessFail | traceAccessFail | oslockSw | osdlrWrite | corenpdrqWrite
deriving DecidableEq, Repr

/-- Why a label is refused: it "is outside the model" (R74), and the state is left as it was. -/
inductive Refusal where
  /-- Raised by `exec` for an instruction without a meaning; no arm raises it. Safe. -/
  | notModelled (mnemonic : String)
  /-- Raised by `step` for a label the decoder refuses (R74, R107). Safe: nothing can be proved of
  such a label. -/
  | undescribedLabel (why : LabelError)
  /-- Raised by an event offered where its precondition of R171 is false: "the environment cannot do
  that there" (R170). Safe where the precondition is the source's, otherwise see log 16. -/
  | eventNotEnabled (event : GuardedEvent)
deriving DecidableEq, Repr

/-- What an oracle answers after a reset: any value, drawn anew for each access attribute record
(R180, R181, R234). -/
def Permission.drawn (k : Nat) (o : Oracle) : Permission :=
  { dpS := Config.drawBit k (.oracle o { memoryMapped := false, nonSecure := false })
    dpNs := Config.drawBit k (.oracle o { memoryMapped := false, nonSecure := true })
    mmS := Config.drawBit k (.oracle o { memoryMapped := true, nonSecure := false })
    mmNs := Config.drawBit k (.oracle o { memoryMapped := true, nonSecure := true }) }

/-- The initial state of R234: an External debug reset and a Cold reset both asserted, the Cold reset
not yet released. What R234 calls a draw or arbitrary is a free value. -/
def State.reset : State :=
  { cfg := Config.implementation
    st := { stad := false, sdr := Config.drawBit 0 .sdrReset, spmad := false, sdad := false,
            sr := true, spd := true }
    env := { power := .on, inReset := true, resetEnteredDlk := false, halted := false,
             osdlrDlk := false, corenpdrq := Config.drawBit 0 .corenpdrqCold, oslk := true,
             slk := true, allowDebug := .drawn 0 .debug, allowPmu := .drawn 0 .pmu,
             allowTrace := .drawn 0 .trace, tracePowered := Config.drawBit 0 .tracePowered }
    response := .nothing
    offered := []
    draws := 1 }

end Sys2Proof.Machine
end

