-- ==== Sys2Proof/Machine/Operands.lean ====
section
/-! DEFINITION. The operands of an access: its attributes, what the oracles answer for them, and the free values a step draws. -/

namespace Sys2Proof.Machine

/-- `NS` of 40_read_access.md: a Non-secure access with the reading access's `memory_mapped`. -/
def asNonSecure (acc : AccessAttr) : AccessAttr := { acc with nonSecure := true }

/-- What an oracle answers for an access (R47 to R49). -/
def Permission.allows (p : Permission) (acc : AccessAttr) : Bool :=
  match acc.memoryMapped, acc.nonSecure with
  | false, false => p.dpS
  | false, true => p.dpNs
  | true, false => p.mmS
  | true, true => p.mmNs

/-- The oracle AUTH_CHANGE sets: the same for both values of `memory_mapped` (R197). -/
def Permission.ofBits (s ns : Bool) : Permission := { dpS := s, dpNs := ns, mmS := s, mmNs := ns }

/-- One draw of one bit, at a site, by the next step (R23, R25). -/
def State.draw (s : State) (site : DrawSite) : Bool := Config.drawBit s.draws site

/-- The failing access behind PMU_ACCESS_FAIL and TRACE_ACCESS_FAIL (R191, R192): the label carries
`non_secure` only, so `memory_mapped` is a draw (log 6). -/
def State.failingAccess (s : State) (ns : Bool) : AccessAttr :=
  { memoryMapped := s.draw .failMemoryMapped, nonSecure := ns }

/-- `data[0]`, the one bit a write of OSLAR_EL1 uses (R163, R194, R195). -/
def oslarDataBit (data : Word) : Bool := data.getLsbD 0

/-- The key of EDLAR and DBGOSLAR (R164, R194). -/
def lockKey : Word := 0xC5ACCE55#32

/-- The Software Lock after a write of EDLAR: the key clears it, any other value sets it (R164, R196). -/
def edlarLock (data : Word) : Bool := data != lockKey

/-- The argument `b` of OSLOCK_SW for an AArch64 write of OSLAR_EL1 (R194). -/
def oslockArgAArch64 (data : Word) : Bool := oslarDataBit data

/-- The argument `b` of OSLOCK_SW for an AArch32 write of DBGOSLAR: the key sets the lock, any other
value clears it (R194). -/
def oslockArgAArch32 (data : Word) : Bool := data == lockKey

end Sys2Proof.Machine
end

