-- ==== Sys2Proof/Machine/Flags.lean ====
section
/-! DEFINITION. The predicates CP, DL, OSL, SLK, RST (R41 to R46), the fourteen field rules of a read (R124 to R138), the read value (R139), and the rules that set and clear the stored bits (R140 to R146, R190 to R192). -/

namespace Sys2Proof.Machine

/-! ### The predicates of 10_state.md -/

/-- `CP`, `IsCorePowered()` (R41, R50). -/
def State.corePowered (s : State) : Bool :=
  match s.env.power with
  | .on => true
  | .lowPower => false
  | .off => false

/-- `DL`, `DoubleLockStatus()` (R44). -/
def State.doubleLocked (s : State) : Bool :=
  s.env.osdlrDlk && s.cfg.doubleLock && !s.env.corenpdrq && !s.env.halted

/-- `OSL`, `OSLockStatus()` (R45). -/
def State.osLocked (s : State) : Bool := s.env.oslk

/-- `SLK`, `SoftwareLockStatus()` for an access (R46). -/
def State.softwareLocked (s : State) (acc : AccessAttr) : Bool :=
  s.cfg.haveSoftwareLock && acc.memoryMapped && s.env.slk

/-- `AD(acc)`, `AllowExternalDebugAccess()` for an access (R47). -/
def State.debugAllowed (s : State) (acc : AccessAttr) : Bool := s.env.allowDebug.allows acc

/-- `AllowExternalPMUAccess()` for an access (R48). -/
def State.pmuAllowed (s : State) (acc : AccessAttr) : Bool := s.env.allowPmu.allows acc

/-- `AllowExternalTraceAccess()` for an access (R49). -/
def State.traceAllowed (s : State) (acc : AccessAttr) : Bool := s.env.allowTrace.allows acc

/-- The register-level condition of EDPRSR and EDLAR, `HAVE_DOPD && !CP` (R121, R160, R164, R201). -/
def State.registerInaccessible (s : State) : Bool := !s.corePowered && s.cfg.haveDopd

/-- `U_A` of 40_read_access.md. -/
def State.unknownA (s : State) : Bool := !s.corePowered || s.doubleLocked || s.env.inReset

/-- `U_B` of 40_read_access.md. -/
def State.unknownB (s : State) : Bool :=
  !s.corePowered || s.osLocked || s.doubleLocked || s.env.inReset

/-- `U_C` of 40_read_access.md. -/
def State.unknownC (s : State) : Bool := !s.corePowered || s.doubleLocked

/-- `U_OSLAR` (R129): before ARMv8.4-Debug, OS Lock set, OSLAR_EL1 writes do not fault. -/
def State.unknownOslar (s : State) : Bool := !s.cfg.v84 && s.osLocked && !s.cfg.oslarErrOnEdad

/-- The PE is in a reset state that it entered with the OS Double Lock locked (R136, R138). -/
def State.inDoubleLockedReset (s : State) : Bool :=
  s.env.inReset && s.env.resetEnteredDlk && s.cfg.doubleLock

/-! ### The fields of a read -/

/-- What a field rule says of the bit a read returns. -/
inductive BitView where
  /-- The rules determine the bit. -/
  | known (b : Bool)
  /-- UNKNOWN: a fresh draw (R122). -/
  | unknown
  /-- A CONSTRAINED UNPREDICTABLE value, 0 or 1: a fresh draw (R25, R136, R138). -/
  | constrainedUnpredictable
deriving DecidableEq, Repr

/-- The bit returned, given the draw of this field in this read. -/
def BitView.resolve (v : BitView) (drawn : Bool) : Bool :=
  match v with
  | .known b => b
  | .unknown => drawn
  | .constrainedUnpredictable => drawn

/-- UNKNOWN under a condition, otherwise a determined bit. -/
def unknownIf (u b : Bool) : BitView := if u then .unknown else .known b

/-- STAD (R124). -/
def State.stadView (s : State) : BitView :=
  if !s.cfg.trbe then .known false else unknownIf s.unknownA s.st.stad

/-- ETAD (R125): the status for a Non-secure access, whoever reads. -/
def State.etadView (s : State) (acc : AccessAttr) : BitView :=
  if !s.cfg.trbe then .known false
  else unknownIf s.unknownA (!s.traceAllowed (asNonSecure acc))

/-- SDR (R126). -/
def State.sdrView (s : State) : BitView := unknownIf s.unknownA s.st.sdr

/-- SPMAD (R127). -/
def State.spmadView (s : State) : BitView :=
  unknownIf (if s.cfg.v84 then s.unknownA else s.unknownB) s.st.spmad

/-- EPMAD (R128): for a Non-secure access with ARMv8.4-Debug, before it for the reading access. -/
def State.epmadView (s : State) (acc : AccessAttr) : BitView :=
  if s.cfg.v84 then unknownIf s.unknownA (!s.pmuAllowed (asNonSecure acc))
  else unknownIf s.unknownB (!s.pmuAllowed acc)

/-- SDAD (R130). -/
def State.sdadView (s : State) : BitView := unknownIf (s.unknownA || s.unknownOslar) s.st.sdad

/-- EDAD (R131): for a Non-secure access with ARMv8.4-Debug, before it for the reading access. -/
def State.edadView (s : State) (acc : AccessAttr) : BitView :=
  unknownIf (s.unknownA || s.unknownOslar)
    (!s.debugAllowed (if s.cfg.v84 then asNonSecure acc else acc))

/-- DLK (R132), four cases, the first that applies. -/
def State.dlkView (s : State) : BitView :=
  if s.cfg.v84 then .known false
  else if s.cfg.v82 && s.cfg.doubleLock then
    (if s.corePowered && !s.doubleLocked then .known false else .unknown)
  else if s.cfg.doubleLock then
    (if !s.corePowered then .unknown
     else if s.doubleLocked then (if s.cfg.choiceA then .known true else .unknown)
     else .known false)
  else .known false

/-- OSLK (R133). -/
def State.oslkView (s : State) : BitView := unknownIf s.unknownA s.env.oslk

/-- HALTED (R134). -/
def State.haltedView (s : State) : BitView := unknownIf (!s.corePowered) s.env.halted

/-- SR (R135). -/
def State.srView (s : State) : BitView := unknownIf s.unknownC s.st.sr

/-- R (R136). -/
def State.rView (s : State) : BitView :=
  if s.unknownC then .unknown
  else if s.inDoubleLockedReset then .constrainedUnpredictable
  else .known s.env.inReset

/-- SPD (R137). -/
def State.spdView (s : State) : BitView :=
  match s.env.power with
  | .lowPower => .known s.cfg.spdLowPower
  | .off => .known s.cfg.spdPowerdown
  | .on =>
    if s.doubleLocked then
      (if s.cfg.v82 then .known false
       else if s.cfg.choiceA then .unknown
       else .known false)
    else .known s.st.spd

/-- PU (R138). -/
def State.puView (s : State) : BitView :=
  if s.cfg.haveDopd then .known true
  else if s.corePowered && s.inDoubleLockedReset then .constrainedUnpredictable
  else if s.cfg.v82 then .known (s.corePowered && !s.doubleLocked)
  else if s.corePowered && s.doubleLocked then .known s.cfg.choiceA
  else .known s.corePowered

/-- The rule of each field for a read with these attributes (R124 to R138). -/
def State.fieldView (s : State) (acc : AccessAttr) : Field → BitView
  | .stad => s.stadView
  | .etad => s.etadView acc
  | .sdr => s.sdrView
  | .spmad => s.spmadView
  | .epmad => s.epmadView acc
  | .sdad => s.sdadView
  | .edad => s.edadView acc
  | .dlk => s.dlkView
  | .oslk => s.oslkView
  | .halted => s.haltedView
  | .sr => s.srView
  | .r => s.rView
  | .spd => s.spdView
  | .pu => s.puView

/-- The bit a read returns in a field. -/
def State.fieldBit (s : State) (acc : AccessAttr) (f : Field) : Bool :=
  (s.fieldView acc f).resolve (s.draw (.read f))

/-- The position of a field (R100). -/
def fieldPos : Field → Nat
  | .stad => 13
  | .etad => 12
  | .sdr => 11
  | .spmad => 10
  | .epmad => 9
  | .sdad => 8
  | .edad => 7
  | .dlk => 6
  | .oslk => 5
  | .halted => 4
  | .sr => 3
  | .r => 2
  | .spd => 1
  | .pu => 0

/-- `zext_32` of the fourteen bits, STAD most significant (R108, R139): bits [31:14] are 0 (R123). -/
def assembleWord (bit : Field → Bool) : Word :=
  (BitVec.ofBool (bit .stad) ++ BitVec.ofBool (bit .etad) ++ BitVec.ofBool (bit .sdr) ++
   BitVec.ofBool (bit .spmad) ++ BitVec.ofBool (bit .epmad) ++ BitVec.ofBool (bit .sdad) ++
   BitVec.ofBool (bit .edad) ++ BitVec.ofBool (bit .dlk) ++ BitVec.ofBool (bit .oslk) ++
   BitVec.ofBool (bit .halted) ++ BitVec.ofBool (bit .sr) ++ BitVec.ofBool (bit .r) ++
   BitVec.ofBool (bit .spd) ++ BitVec.ofBool (bit .pu)).setWidth 32

/-- `ReadValue(acc)` (R139). -/
def State.readValue (s : State) (acc : AccessAttr) : Word := assembleWord (s.fieldBit acc)

/-! ### Clearing the stored bits -/

/-- The assignments of R141, with R144 for SDR: what clearing makes of the stored bits. -/
def State.clearedLatches (s : State) : Latches :=
  { stad := false
    sdr := if s.env.inReset then s.draw .sdrReadInReset else false
    spmad := false
    sdad := false
    sr := if s.env.inReset then s.st.sr else false
    spd := false }

/-- `CU_choose(apply, skip)` for one stored bit (R142). -/
def State.clearOrKeep (s : State) (b : Sticky) (old new : Bool) : Bool :=
  if s.draw (.skipClear b) then old else new

/-- `ClearAfterRead(acc)` (R140 to R145): the stored bits after a permitted read. -/
def State.latchesAfterRead (s : State) (acc : AccessAttr) : Latches :=
  if s.softwareLocked acc then s.st
  else if !s.corePowered then s.st
  else if !s.doubleLocked then s.clearedLatches
  else
    { stad := s.clearOrKeep .stad s.st.stad s.clearedLatches.stad
      sdr := s.clearOrKeep .sdr s.st.sdr s.clearedLatches.sdr
      spmad := s.clearOrKeep .spmad s.st.spmad s.clearedLatches.spmad
      sdad := s.clearOrKeep .sdad s.st.sdad s.clearedLatches.sdad
      sr := s.clearOrKeep .sr s.st.sr s.clearedLatches.sr
      spd := s.clearOrKeep .spd s.st.spd s.clearedLatches.spd }

/-! ### Setting the sticky error bits -/

/-- A sticky error bit after a failed access, the shape R190 to R192 share. `denied`: the permission
failed, otherwise case (e). `undecided`: another cause is present (case c), or the source disagrees
with itself about Secure accesses (case b), so `drawn` decides. Otherwise case (a). -/
def stickyAfterFailure (old denied undecided drawn : Bool) : Bool :=
  if !denied then old
  else if undecided then old || drawn
  else true

/-- `st.sdad` after a failed access (R190). `denied` is `fails_AD`; `otherCause` is the Double Lock,
or the OS Lock for a breakpoint or watchpoint register. An unpowered core is case (d). -/
def State.sdadAfterFailure (s : State) (acc : AccessAttr) (denied otherCause : Bool) : Bool :=
  if !s.corePowered then s.st.sdad
  else stickyAfterFailure s.st.sdad denied (otherCause || (s.cfg.v84 && !acc.nonSecure))
    (s.draw (.maybeSet .sdad))

/-- `st.spmad` after PMU_ACCESS_FAIL (R191). -/
def State.spmadAfterFailure (s : State) (acc : AccessAttr) : Bool :=
  if !s.corePowered then s.st.spmad
  else stickyAfterFailure s.st.spmad (!s.pmuAllowed acc)
    (s.doubleLocked || s.osLocked || (s.cfg.v84 && !acc.nonSecure)) (s.draw (.maybeSet .spmad))

/-- `st.stad` after TRACE_ACCESS_FAIL (R192): a Secure access never sets it, and without TRBE there
is no latch. -/
def State.stadAfterFailure (s : State) (acc : AccessAttr) : Bool :=
  if !s.cfg.trbe || !s.corePowered || !acc.nonSecure then s.st.stad
  else stickyAfterFailure s.st.stad (!s.traceAllowed acc)
    (s.osLocked || !s.env.tracePowered) (s.draw (.maybeSet .stad))

end Sys2Proof.Machine
end

