-- ==== Sys2Proof/Machine/Ops.lean ====
section
/-! DEFINITION. The named operations over the state: returning a response, offering labels, the error response (R200), the accesses that share a meaning (R165, R190), and entering a reset (R180, R181). -/

namespace Sys2Proof.Machine

/-- The state with another record of stored bits. -/
def State.withSt (s : State) (st : Latches) : State := { s with st := st }

/-- The state with another record of environment inputs. -/
def State.withEnv (s : State) (env : Env) : State := { s with env := env }

/-- What the step returns to the debugger. -/
def State.respond (s : State) (r : Response) : State := { s with response := r }

/-- The step has drawn: the next step's free values are fresh (R23). -/
def State.tick (s : State) : State := { s with draws := s.draws + 1 }

/-- The state with another list of labels still to be taken. -/
def State.withOffered (s : State) (ls : List Label) : State := { s with offered := ls }

/-- Offer these labels after the ones already offered. -/
def State.offer (s : State) (ls : List Label) : State := s.withOffered (s.offered ++ ls)

/-- An event was taken: it returns nothing (R170). -/
def State.eventDone (s : State) : State := s.respond .nothing

/-- THE ERROR RESPONSE (R200, R205): the access ends here; it saves nothing, transfers nothing and
returns no data. There is no return from it: the debugger goes on (R206). -/
def State.errorResponse (s : State) : State := s.respond .error

/-- An event refused because its precondition is false (R170). -/
def refuseEvent (e : GuardedEvent) : Host.Outcome State Fault Refusal := .refused (.eventNotEnabled e)

/-- Take an event if its precondition holds (R170): the rule's effect, and nothing returned. -/
def takeEvent (enabled : Bool) (e : GuardedEvent) (after : State) : Host.Outcome State Fault Refusal :=
  if enabled then .next after.eventDone else refuseEvent e

/-! ### Accesses -/

/-- A failed access to a register governed by `AllowExternalDebugAccess()`: the error response, and
`st.sdad` by R190. -/
def State.failDebugAccess (s : State) (acc : AccessAttr) (denied otherCause : Bool) : State :=
  (s.withSt { s.st with sdad := s.sdadAfterFailure acc denied otherCause }).errorResponse.tick

/-- Does the permission make an OSLAR_EL1 write fail? (R163, R190: `fails_AD` for OSLAR_EL1.) -/
def State.oslarDenied (s : State) (acc : AccessAttr) : Bool :=
  !s.debugAllowed acc && (s.cfg.v82 || s.cfg.oslarErrOnEdad)

/-- Does an access to a breakpoint or watchpoint register fail? (R165, R201.) -/
def State.breakWatchFails (s : State) (acc : AccessAttr) : Bool :=
  !s.corePowered || s.osLocked || s.doubleLocked || !s.debugAllowed acc

/-- `BPWP_ACCESS` (R165), which the six breakpoint and watchpoint rows share. The contents are not
modelled: a permitted write leaves nothing behind, a permitted read returns any word. -/
def State.breakWatchAccess (s : State) (op : RegOp) (acc : AccessAttr) : State :=
  if s.breakWatchFails acc then
    s.failDebugAccess acc (!s.debugAllowed acc) (s.doubleLocked || s.osLocked)
  else
    match op with
    | .write _ => s.respond .ok
    | .read => (s.respond (.value (Config.drawWord s.draws))).tick

/-! ### Resets -/

/-- The part of entering reset state that a Cold and a Warm reset share (R181, R185): the reset state,
its memory of the Double Lock, the exit from Debug state (R179), OSDLR_EL1.DLK, and the permissions
drawn anew. -/
def State.envInReset (s : State) : Env :=
  { s.env with
    resetEnteredDlk := if s.env.inReset then s.env.resetEnteredDlk else s.doubleLocked
    inReset := true
    halted := false
    osdlrDlk := false
    allowDebug := .drawn s.draws .debug
    allowPmu := .drawn s.draws .pmu
    allowTrace := .drawn s.draws .trace }

/-- The stored bits after a Warm reset (R181). -/
def State.latchesWarmReset (s : State) : Latches :=
  { s.st with sr := true, sdr := s.draw .sdrReset }

/-- The stored bits after a Cold reset (R180). -/
def State.latchesColdReset (s : State) : Latches :=
  { stad := false, sdr := s.draw .sdrReset, spmad := false, sdad := false, sr := true, spd := true }

/-- Enter a Warm reset (R181). -/
def State.enterWarmReset (s : State) : State :=
  ((s.withSt s.latchesWarmReset).withEnv s.envInReset).tick

/-- Enter a Cold reset (R180): everything a Warm reset does (R185), and the Cold reset values. -/
def State.enterColdReset (s : State) : State :=
  ((s.withSt s.latchesColdReset).withEnv
    { s.envInReset with oslk := true, corenpdrq := s.draw .corenpdrqCold }).tick

/-! ### Preconditions of the events (R171) -/

/-- Software runs on the PE: powered and out of reset (R193, R194). -/
def State.softwareRuns (s : State) : Bool := s.corePowered && !s.env.inReset

/-- CORE_POWER_DOWN's precondition (R186). -/
def State.canPowerDown (s : State) (k : DownTo) : Bool :=
  match k, s.env.power with
  | .lowPower, .on => true
  | .lowPower, .lowPower => false
  | .lowPower, .off => false
  | .off, .on => !s.env.corenpdrq
  | .off, .lowPower => !s.env.corenpdrq
  | .off, .off => false

/-- PMU_ACCESS_FAIL's precondition: the access does fail (R191). -/
def State.pmuAccessFails (s : State) (acc : AccessAttr) : Bool :=
  !s.corePowered || s.osLocked || s.doubleLocked || !s.pmuAllowed acc

/-- TRACE_ACCESS_FAIL's precondition: the access does fail (R192). -/
def State.traceAccessFails (s : State) (acc : AccessAttr) : Bool :=
  s.osLocked || !s.traceAllowed acc || !s.env.tracePowered

end Sys2Proof.Machine
end

