-- ==== Sys2Proof/Machine/AccessFail.lean ====
section
/-! DEFINITION. Failed accesses to Performance Monitors and trace unit registers (R191, R192). -/

namespace Sys2Proof.Machine

/-- PMU_ACCESS_FAIL (R191). -/
def execPmuAccessFail (ns : Bool) (s : State) : Host.Outcome State Fault Refusal :=
  takeEvent (s.pmuAccessFails (s.failingAccess ns)) .pmuAccessFail
    (s.withSt { s.st with spmad := s.spmadAfterFailure (s.failingAccess ns) }).tick

/-- TRACE_ACCESS_FAIL (R192). -/
def execTraceAccessFail (ns : Bool) (s : State) : Host.Outcome State Fault Refusal :=
  takeEvent (s.traceAccessFails (s.failingAccess ns)) .traceAccessFail
    (s.withSt { s.st with stad := s.stadAfterFailure (s.failingAccess ns) }).tick

end Sys2Proof.Machine
end

