-- ==== Sys2Proof/Machine/BreakWatch.lean ====
section
/-! DEFINITION. The breakpoint and watchpoint registers, read or written (R165). -/

namespace Sys2Proof.Machine

/-- DBGBVR.LO (R165), offset `0x400 + 16n`. -/
def execDbgbvrLo (_n : Nat) (op : RegOp) (acc : AccessAttr) (s : State) :
    Host.Outcome State Fault Refusal := .next (s.breakWatchAccess op acc)

/-- DBGBVR.HI (R165), offset `0x404 + 16n`. -/
def execDbgbvrHi (_n : Nat) (op : RegOp) (acc : AccessAttr) (s : State) :
    Host.Outcome State Fault Refusal := .next (s.breakWatchAccess op acc)

/-- DBGBCR (R165), offset `0x408 + 16n`. -/
def execDbgbcr (_n : Nat) (op : RegOp) (acc : AccessAttr) (s : State) :
    Host.Outcome State Fault Refusal := .next (s.breakWatchAccess op acc)

/-- DBGWVR.LO (R165), offset `0x800 + 16n`. -/
def execDbgwvrLo (_n : Nat) (op : RegOp) (acc : AccessAttr) (s : State) :
    Host.Outcome State Fault Refusal := .next (s.breakWatchAccess op acc)

/-- DBGWVR.HI (R165), offset `0x804 + 16n`. -/
def execDbgwvrHi (_n : Nat) (op : RegOp) (acc : AccessAttr) (s : State) :
    Host.Outcome State Fault Refusal := .next (s.breakWatchAccess op acc)

/-- DBGWCR (R165), offset `0x808 + 16n`. -/
def execDbgwcr (_n : Nat) (op : RegOp) (acc : AccessAttr) (s : State) :
    Host.Outcome State Fault Refusal := .next (s.breakWatchAccess op acc)

end Sys2Proof.Machine
end

