-- ==== Sys2Proof/Machine/DebugState.lean ====
section
/-! DEFINITION. Entry to and exit from Debug state (R177, R178). -/

namespace Sys2Proof.Machine

/-- DEBUG_ENTRY (R177): `st.sdr` records exits only. -/
def execDebugEntry (s : State) : Host.Outcome State Fault Refusal :=
  takeEvent (s.softwareRuns && !s.env.halted) .debugEntry
    (s.withEnv { s.env with halted := true })

/-- DEBUG_EXIT (R178): both assignments in one atomic step. -/
def execDebugExit (s : State) : Host.Outcome State Fault Refusal :=
  takeEvent (s.corePowered && s.env.halted) .debugExit
    ((s.withEnv { s.env with halted := false }).withSt { s.st with sdr := true })

end Sys2Proof.Machine
end

