-- ==== Sys2Proof/Machine/Locks.lean ====
section
/-! DEFINITION. The writes of the lock and power request bits that EDPRSR mirrors (R189, R193, R194). -/

namespace Sys2Proof.Machine

/-- OSLOCK_SW (R194). -/
def execOslockSw (b : Bool) (s : State) : Host.Outcome State Fault Refusal :=
  takeEvent s.softwareRuns .oslockSw (s.withEnv { s.env with oslk := b })

/-- OSDLR_WRITE (R193): without the Double Lock OSDLR_EL1.DLK is RAZ/WI. -/
def execOsdlrWrite (b : Bool) (s : State) : Host.Outcome State Fault Refusal :=
  takeEvent s.softwareRuns .osdlrWrite
    (if s.cfg.doubleLock then s.withEnv { s.env with osdlrDlk := b } else s)

/-- CORENPDRQ_WRITE (R189): the precondition is the core's power and nothing else (`90` C15). -/
def execCorenpdrqWrite (b : Bool) (s : State) : Host.Outcome State Fault Refusal :=
  takeEvent s.corePowered .corenpdrqWrite (s.withEnv { s.env with corenpdrq := b })

end Sys2Proof.Machine
end

