-- ==== Sys2Proof/Machine/Permissions.lean ====
section
/-! DEFINITION. Changes of the permission oracles and of the trace unit's power (R197, R198). -/

namespace Sys2Proof.Machine

/-- AUTH_CHANGE (R197). It has no precondition. -/
def execAuthChange (m : AuthBits) (s : State) : Host.Outcome State Fault Refusal :=
  .next
    (s.withEnv
      { s.env with
        allowDebug := .ofBits m.dbgS m.dbgNs
        allowPmu := .ofBits m.pmuS m.pmuNs
        allowTrace := .ofBits m.traceS m.traceNs }).eventDone

/-- TRACE_POWER (R198). It has no precondition. -/
def execTracePower (on : Bool) (s : State) : Host.Outcome State Fault Refusal :=
  .next (s.withEnv { s.env with tracePowered := on }).eventDone

end Sys2Proof.Machine
end

