-- ==== Sys2Proof/Machine/PowerEvents.lean ====
section
/-! DEFINITION. The Core power domain leaving and entering the powerup state (R186, R187). -/

namespace Sys2Proof.Machine

/-- The power state CORE_POWER_DOWN enters (R186). -/
def powerAfterDown : DownTo → Power
  | .lowPower => .lowPower
  | .off => .off

/-- CORE_POWER_DOWN (R186). The stored bits are lost from here on (R56): the fields keep their last
values aside for a restoring power up. -/
def execCorePowerDown (k : DownTo) (s : State) : Host.Outcome State Fault Refusal :=
  takeEvent (s.canPowerDown k) .corePowerDown
    (s.withEnv { s.env with power := powerAfterDown k })

/-- The core comes up with its state lost: powered, and through a Cold reset not entered double
locked (R187). -/
def State.powerUpLost (s : State) : State :=
  let up := (s.withEnv { s.env with power := .on }).enterColdReset
  up.withEnv { up.env with resetEnteredDlk := false }

/-- The core comes up with its state kept or put back: the stored bits are what they were at the
powerdown, and CORENPDRQ is unchanged or its Cold reset value (R187, R57). -/
def State.powerUpRestored (s : State) : State :=
  (s.withEnv
    { s.env with
      power := .on
      corenpdrq :=
        if s.draw .corenpdrqReload then s.draw .corenpdrqCold else s.env.corenpdrq }).tick

/-- CORE_POWER_UP (R187). -/
def execCorePowerUp (lost : Bool) (s : State) : Host.Outcome State Fault Refusal :=
  takeEvent (!s.corePowered) .corePowerUp (if lost then s.powerUpLost else s.powerUpRestored)

end Sys2Proof.Machine
end

