-- ==== Sys2Proof/Machine/ReadAccess.lean ====
section
/-! DEFINITION. EDPRSR.RD, the read that forgets (R120 to R145). -/

namespace Sys2Proof.Machine

/-- EDPRSR.RD (R120): the register-level test, then the value of the state before the read, then the
clearing, in one atomic step. -/
def execEdprsrRd (acc : AccessAttr) (s : State) : Host.Outcome State Fault Refusal :=
  .next <|
    if s.registerInaccessible then s.errorResponse
    else ((s.withSt (s.latchesAfterRead acc)).respond (.value (s.readValue acc))).tick

end Sys2Proof.Machine
end

