-- ==== Sys2Proof/Machine/Resets.lean ====
section
/-! DEFINITION. The resets and their release (R180, R181, R182, R184). -/

namespace Sys2Proof.Machine

/-- COLD_RESET (R180). -/
def execColdReset (s : State) : Host.Outcome State Fault Refusal :=
  takeEvent s.corePowered .coldReset s.enterColdReset

/-- WARM_RESET (R181). -/
def execWarmReset (s : State) : Host.Outcome State Fault Refusal :=
  takeEvent s.corePowered .warmReset s.enterWarmReset

/-- RESET_RELEASE (R182): `st.sr` stays as it is until the next read. -/
def execResetRelease (s : State) : Host.Outcome State Fault Refusal :=
  takeEvent (s.corePowered && s.env.inReset) .resetRelease
    (s.withEnv { s.env with inReset := false })

/-- EXT_DEBUG_RESET (R184): sets the Software Lock where there is one, and touches nothing of
EDPRSR. It has no precondition. `HAVE_SOFTWARE_LOCK` implies `!HAVE_DOPD` (R13). -/
def execExtDebugReset (s : State) : Host.Outcome State Fault Refusal :=
  .next <|
    if s.cfg.haveSoftwareLock && !s.cfg.haveDopd then
      (s.withEnv { s.env with slk := true }).eventDone
    else s.eventDone

end Sys2Proof.Machine
end

