-- ==== Sys2Proof/Machine/WriteAccess.lean ====
section
/-! DEFINITION. EDPRSR.WR and the writes of the two lock access registers (R160, R163, R164). -/

namespace Sys2Proof.Machine

/-- EDPRSR.WR (R160): the write completes and is ignored; its data is not decoded. -/
def execEdprsrWr (_data : Word) (_acc : AccessAttr) (s : State) : Host.Outcome State Fault Refusal :=
  .next <| if s.registerInaccessible then s.errorResponse else s.respond .ok

/-- OSLAR_EL1.WR (R163). -/
def execOslarWr (data : Word) (acc : AccessAttr) (s : State) : Host.Outcome State Fault Refusal :=
  .next <|
    if !s.corePowered || s.doubleLocked || s.oslarDenied acc then
      s.failDebugAccess acc (s.oslarDenied acc) s.doubleLocked
    else if s.softwareLocked acc then s.respond .ok
    else (s.withEnv { s.env with oslk := oslarDataBit data }).respond .ok

/-- EDLAR.WR (R164). -/
def execEdlarWr (data : Word) (acc : AccessAttr) (s : State) : Host.Outcome State Fault Refusal :=
  .next <|
    if s.registerInaccessible then s.errorResponse
    else if !s.cfg.haveSoftwareLock then s.respond .ok
    else if !acc.memoryMapped then s.respond .ok
    else (s.withEnv { s.env with slk := edlarLock data }).respond .ok

end Sys2Proof.Machine
end

