-- ==== Sys2Proof/Machine/Dispatch.lean ====
section
/-! DEFINITION. The meaning of every step label, one arm per constructor of Instr. -/

namespace Sys2Proof.Machine

def exec (i : Instr) (s : State) : Host.Outcome State Fault Refusal :=
  match i with
  | .edprsrRd acc => Sys2Proof.Machine.execEdprsrRd acc s
  | .edprsrWr data acc => Sys2Proof.Machine.execEdprsrWr data acc s
  | .oslarWr data acc => Sys2Proof.Machine.execOslarWr data acc s
  | .edlarWr data acc => Sys2Proof.Machine.execEdlarWr data acc s
  | .dbgbvrLo n op acc => Sys2Proof.Machine.execDbgbvrLo n op acc s
  | .dbgbvrHi n op acc => Sys2Proof.Machine.execDbgbvrHi n op acc s
  | .dbgbcr n op acc => Sys2Proof.Machine.execDbgbcr n op acc s
  | .dbgwvrLo n op acc => Sys2Proof.Machine.execDbgwvrLo n op acc s
  | .dbgwvrHi n op acc => Sys2Proof.Machine.execDbgwvrHi n op acc s
  | .dbgwcr n op acc => Sys2Proof.Machine.execDbgwcr n op acc s
  | .coldReset => Sys2Proof.Machine.execColdReset s
  | .warmReset => Sys2Proof.Machine.execWarmReset s
  | .resetRelease => Sys2Proof.Machine.execResetRelease s
  | .extDebugReset => Sys2Proof.Machine.execExtDebugReset s
  | .corePowerDown k => Sys2Proof.Machine.execCorePowerDown k s
  | .corePowerUp lost => Sys2Proof.Machine.execCorePowerUp lost s
  | .debugEntry => Sys2Proof.Machine.execDebugEntry s
  | .debugExit => Sys2Proof.Machine.execDebugExit s
  | .pmuAccessFail ns => Sys2Proof.Machine.execPmuAccessFail ns s
  | .traceAccessFail ns => Sys2Proof.Machine.execTraceAccessFail ns s
  | .oslockSw b => Sys2Proof.Machine.execOslockSw b s
  | .osdlrWrite b => Sys2Proof.Machine.execOsdlrWrite b s
  | .corenpdrqWrite b => Sys2Proof.Machine.execCorenpdrqWrite b s
  | .authChange m => Sys2Proof.Machine.execAuthChange m s
  | .tracePower on => Sys2Proof.Machine.execTracePower on s

end Sys2Proof.Machine
end

