-- ==== Sys2Proof/Machine/Step.lean ====
section
/-! DEFINITION. One step: take the oldest offered label, decode it, run it (R31, R80, R106). -/

namespace Sys2Proof.Machine

/-- One atomic step (R76, R80): the oldest label the environment offers is decoded and taken. -/
def step (s : State) : Host.Outcome State Fault Refusal :=
  match s.offered with
  | [] => .fault .noStepOffered
  | l :: rest =>
    match decode l with
    | .ok i => exec i (s.withOffered rest)
    | .error why => .refused (.undescribedLabel why)

/-- The label that a number of `nbits` bits stands for, offered before every other (log 2, 9). -/
def State.withFetchWord (s : State) (nbits w : Nat) : State :=
  s.withOffered (tableLabel nbits w :: s.offered)

end Sys2Proof.Machine
end

