-- ==== Sys2Proof/Machine/Identification.lean ====
section
/-! DEFINITION. What the neighbouring registers show of the configuration and of the inputs (R2, R9 to R13, R43, R45, R46, R213). No label reads these registers; the views say how a debugger learns what it is reading. -/

namespace Sys2Proof

/-- EDDEVARCH.ARCHVER, bits [15:12] (R11, R213). -/
def Config.archver (c : Config) : BitVec 4 :=
  match c.debugVer with
  | .v8_0 _ => 0b0110#4
  | .v8_0Vhe _ => 0b0111#4
  | .v8_2 => 0b1000#4
  | .v8_4 => 0b1001#4

/-- EDDEVARCH.ARCHPART, the part number of the Armv8-A debug component (R2). -/
def eddevarchArchpart : BitVec 12 := 0xA15#12

/-- EDDEVARCH.ARCHITECT: bits [31:28] are `0x4`, bits [27:21] are `0x3B` (R2). -/
def eddevarchArchitect : BitVec 11 := 0x4#4 ++ 0x3B#7

/-- EDDEVARCH.PRESENT (R2). -/
def eddevarchPresent : Bool := true

/-- EDDEVARCH.REVISION, bits [19:16] (R2). -/
def eddevarchRevision : BitVec 4 := 0#4

/-- EDDEVID.DebugPower, bits [7:4] (R9, R213). -/
def Config.eddevidDebugPower (c : Config) : BitVec 4 := if c.haveDopd then 0b0001#4 else 0b0000#4

/-- ID_AA64DFR0_EL1.DoubleLock, bits [39:36] (R10). -/
def Config.aa64DoubleLock (c : Config) : BitVec 4 := if c.doubleLock then 0b0000#4 else 0b1111#4

/-- DBGDEVID.DoubleLock, bits [23:20], of the opposite sense (R10). -/
def Config.dbgdevidDoubleLock (c : Config) : BitVec 4 := if c.doubleLock then 0b0001#4 else 0b0000#4

/-- ID_AA64DFR0_EL1.TraceBuffer, bits [47:44] (R12). -/
def Config.aa64TraceBuffer (c : Config) : BitVec 4 := if c.trbe then 0b0001#4 else 0b0000#4

/-- EDLSR.SLI, bit [0]: the Software Lock is implemented and the access is memory-mapped (R13). -/
def Config.edlsrSli (c : Config) (acc : AccessAttr) : Bool := c.haveSoftwareLock && acc.memoryMapped

namespace Machine

/-- EDLSR.SLK, bit [1]: RES0 for an access that is not memory-mapped, or without the lock (R46). -/
def State.edlsrSlk (s : State) (acc : AccessAttr) : Bool := s.softwareLocked acc

/-- OSLSR_EL1.OSLK, bit [1] (R45). -/
def State.oslsrOslk (s : State) : Bool := s.env.oslk

/-- OSLSR_EL1.OSLM, bits [3] and [0]: OS Lock implemented (R45). -/
def oslsrOslm : BitVec 2 := 0b10#2

/-- OSLSR_EL1.nTT, bit [2], is RAZ (R45). -/
def oslsrNtt : Bool := false

/-- The listed values of EDSCR.STATUS (R43, R215). -/
inductive DebugStatus where
  | restarting
  | nonDebug
  | breakpoint
  | externalDebugRequest
  | haltingStepNormal
  | haltingStepExclusive
  | osUnlockCatch
  | resetCatch
  | watchpoint
  | hltInstruction
  | softwareAccess
  | exceptionCatch
  | haltingStepNoSyndrome
deriving DecidableEq, Repr

/-- The value of EDSCR.STATUS, bits [5:0] (R43). -/
def statusCode : DebugStatus → BitVec 6
  | .restarting => 0b000001#6
  | .nonDebug => 0b000010#6
  | .breakpoint => 0b000111#6
  | .externalDebugRequest => 0b010011#6
  | .haltingStepNormal => 0b011011#6
  | .haltingStepExclusive => 0b011111#6
  | .osUnlockCatch => 0b100011#6
  | .resetCatch => 0b100111#6
  | .watchpoint => 0b101011#6
  | .hltInstruction => 0b101111#6
  | .softwareAccess => 0b110011#6
  | .exceptionCatch => 0b110111#6
  | .haltingStepNoSyndrome => 0b111011#6

/-- Is the PE in Debug state under this status? `none` while it is restarting: R43 says that is not
stated (N10). -/
def statusHalted : DebugStatus → Option Bool
  | .restarting => none
  | .nonDebug => some false
  | .breakpoint => some true
  | .externalDebugRequest => some true
  | .haltingStepNormal => some true
  | .haltingStepExclusive => some true
  | .osUnlockCatch => some true
  | .resetCatch => some true
  | .watchpoint => some true
  | .hltInstruction => some true
  | .softwareAccess => some true
  | .exceptionCatch => some true
  | .haltingStepNoSyndrome => some true

end Machine

end Sys2Proof
end

