-- ==== Sys2Proof/Machine/Requests.lean ====
section
/-! DEFINITION. The debugger's requests through EDPRCR, which reach the machine as events (R166, R183). EDPRCR is no label: these predicates say when its writes can be behind an event. -/

namespace Sys2Proof.Machine

/-- A debugger's write of EDPRCR.CORENPDRQ or EDPRCR.CWRR can have an effect: `CP && !DL && !OSL && !SLK` (R166). -/
def State.edprcrWriteEffective (s : State) (acc : AccessAttr) : Bool :=
  s.corePowered && !s.doubleLocked && !s.osLocked && !s.softwareLocked acc

/-- What R183's conditions ask of the PE: EL3, its one Security state if it has no EL3, and the two
functions of the authentication interface (R61). -/
structure InvasiveDebug where
  haveEl3 : Bool
  onlySecure : Bool
  /-- `ExternalInvasiveDebugEnabled()`. -/
  enabled : Bool
  /-- `ExternalSecureInvasiveDebugEnabled()`. -/
  secureEnabled : Bool
deriving DecidableEq, Repr

/-- "The PE ignores writes to this bit if any of the following are true" (R183, EDPRCR.CWRR). -/
def peIgnoresCwrr (d : InvasiveDebug) : Bool :=
  (!d.enabled && !d.haveEl3 && !d.onlySecure) || (!d.secureEnabled && !d.haveEl3 && d.onlySecure) ||
    (!d.secureEnabled && d.haveEl3)

/-- After a write of 1 to EDPRCR.CWRR the environment may offer WARM_RESET (R183, R18). -/
def State.warmResetMayFollow (s : State) (acc : AccessAttr) (d : InvasiveDebug) : Bool :=
  s.edprcrWriteEffective acc && !peIgnoresCwrr d && s.cfg.warmResetExtent != .ignored

end Sys2Proof.Machine
end

