-- ==== Sys2Proof/Machine/Trace.lean ====
section
/-! DEFINITION. The pseudo-forms of the trace syntax (R109), as lists of labels to offer. -/

namespace Sys2Proof.Machine

/-- `RESET_PULSE_WARM` (R109). -/
def resetPulseWarm : List Instr := [.warmReset, .resetRelease]

/-- `RESET_PULSE_COLD` (R109). -/
def resetPulseCold : List Instr := [.coldReset, .resetRelease]

/-- `POLL EDPRSR, _, _, k`: `k` reads (R109). -/
def poll (acc : AccessAttr) (k : Nat) : List Instr := List.replicate k (.edprsrRd acc)

/-- `-> value / mask` of a read line: the word returned agrees with `value` under `mask` (R109). -/
def readAsserts (r : Response) (value mask : Word) : Bool :=
  match r with
  | .value v => v &&& mask == value
  | .nothing => false
  | .ok => false
  | .error => false

/-- Offer these steps, in this order. -/
def State.offerSteps (s : State) (is : List Instr) : State := s.offer (is.map encode)

end Sys2Proof.Machine
end

