-- ==== Sys2Proof/Safety.lean ====
section
/-! DEFINITION. What claims are stated in: the invariant of every reachable state (R56), which labels are enabled (R171), which accesses fail (R201), sequences of steps, and which fields of a read word may be believed (R237). -/

namespace Sys2Proof.Machine

/-- The invariants of the state. The first two are R56 (a) and (b); the others follow from the rules
they cite. -/
structure State.Inv (s : State) : Prop where
  /-- R56 (a): without TRBE there is no STAD. -/
  stad_zero : s.cfg.trbe = false → s.st.stad = false
  /-- R56 (b): SR is 1 while the PE is in reset state. -/
  sr_in_reset : s.env.inReset = true → s.st.sr = true
  /-- R177, R180, R181: a PE in reset state is not in Debug state. -/
  not_halted_in_reset : s.env.inReset = true → s.env.halted = false
  /-- R180, R181, R193: OSDLR_EL1.DLK is 0 while the PE is in reset state. -/
  osdlr_zero_in_reset : s.env.inReset = true → s.env.osdlrDlk = false
  /-- R193: without the Double Lock OSDLR_EL1.DLK is RAZ/WI. -/
  osdlr_zero : s.cfg.doubleLock = false → s.env.osdlrDlk = false
  /-- R42: only an implementation with the Double Lock enters reset state double locked. -/
  entered_dlk : s.cfg.doubleLock = false → s.env.resetEnteredDlk = false
  /-- R57, R186: the core is not switched off while CORENPDRQ is 1. -/
  off_corenpdrq : s.env.power = .off → s.env.corenpdrq = false

/-- Is the step enabled in this state? The preconditions of R171; accesses have none. -/
def State.enabled (s : State) : Instr → Bool
  | .edprsrRd _ => true
  | .edprsrWr _ _ => true
  | .oslarWr _ _ => true
  | .edlarWr _ _ => true
  | .dbgbvrLo _ _ _ => true
  | .dbgbvrHi _ _ _ => true
  | .dbgbcr _ _ _ => true
  | .dbgwvrLo _ _ _ => true
  | .dbgwvrHi _ _ _ => true
  | .dbgwcr _ _ _ => true
  | .coldReset => s.env.power == .on
  | .warmReset => s.env.power == .on
  | .resetRelease => s.env.power == .on && s.env.inReset
  | .extDebugReset => true
  | .corePowerDown .lowPower => s.env.power == .on
  | .corePowerDown .off => (s.env.power == .on || s.env.power == .lowPower) && !s.env.corenpdrq
  | .corePowerUp _ => s.env.power != .on
  | .debugEntry => s.env.power == .on && !s.env.inReset && !s.env.halted
  | .debugExit => s.env.power == .on && s.env.halted
  | .pmuAccessFail ns =>
    !(s.env.power == .on && !s.doubleLocked && !s.env.oslk &&
      s.env.allowPmu.allows (s.failingAccess ns))
  | .traceAccessFail ns =>
    s.env.oslk || !s.env.allowTrace.allows (s.failingAccess ns) || !s.env.tracePowered
  | .oslockSw _ => s.env.power == .on && !s.env.inReset
  | .osdlrWrite _ => s.env.power == .on && !s.env.inReset
  | .corenpdrqWrite _ => s.env.power == .on
  | .authChange _ => true
  | .tracePower _ => true

/-- The attributes of an access to a register governed by `AllowExternalDebugAccess()`: OSLAR_EL1 and
the breakpoint and watchpoint registers (R58, R190). -/
def debugRegisterAccess : Instr → Option AccessAttr
  | .oslarWr _ acc => some acc
  | .dbgbvrLo _ _ acc => some acc
  | .dbgbvrHi _ _ acc => some acc
  | .dbgbcr _ _ acc => some acc
  | .dbgwvrLo _ _ acc => some acc
  | .dbgwvrHi _ _ acc => some acc
  | .dbgwcr _ _ acc => some acc
  | .edprsrRd _ => none
  | .edprsrWr _ _ => none
  | .edlarWr _ _ => none
  | .coldReset => none
  | .warmReset => none
  | .resetRelease => none
  | .extDebugReset => none
  | .corePowerDown _ => none
  | .corePowerUp _ => none
  | .debugEntry => none
  | .debugExit => none
  | .pmuAccessFail _ => none
  | .traceAccessFail _ => none
  | .oslockSw _ => none
  | .osdlrWrite _ => none
  | .corenpdrqWrite _ => none
  | .authChange _ => none
  | .tracePower _ => none

/-- Is the label an access of the debugger (R104), rather than an event (R105)? -/
def isAccess (i : Instr) : Bool :=
  match encode i with
  | .xdi _ _ _ _ => true
  | .evt _ => false

/-- The condition for the error response of a breakpoint or watchpoint access: not
`CP && !DL && !OSL && AD` (R201). -/
def State.breakWatchError (s : State) (acc : AccessAttr) : Bool :=
  !(s.env.power == .on && !s.doubleLocked && !s.env.oslk && s.env.allowDebug.allows acc)

/-- The table of R201: when the access ends in the error response. No event does. -/
def State.accessError (s : State) : Instr → Bool
  | .edprsrRd _ => s.cfg.haveDopd && s.env.power != .on
  | .edprsrWr _ _ => s.cfg.haveDopd && s.env.power != .on
  | .oslarWr _ acc =>
    !(s.env.power == .on && !s.doubleLocked &&
      (s.env.allowDebug.allows acc || (!s.cfg.v82 && !s.cfg.oslarErrOnEdad)))
  | .edlarWr _ _ => s.cfg.haveDopd && s.env.power != .on
  | .dbgbvrLo _ _ acc => s.breakWatchError acc
  | .dbgbvrHi _ _ acc => s.breakWatchError acc
  | .dbgbcr _ _ acc => s.breakWatchError acc
  | .dbgwvrLo _ _ acc => s.breakWatchError acc
  | .dbgwvrHi _ _ acc => s.breakWatchError acc
  | .dbgwcr _ _ acc => s.breakWatchError acc
  | .coldReset => false
  | .warmReset => false
  | .resetRelease => false
  | .extDebugReset => false
  | .corePowerDown _ => false
  | .corePowerUp _ => false
  | .debugEntry => false
  | .debugExit => false
  | .pmuAccessFail _ => false
  | .traceAccessFail _ => false
  | .oslockSw _ => false
  | .osdlrWrite _ => false
  | .corenpdrqWrite _ => false
  | .authChange _ => false
  | .tracePower _ => false

/-- These steps, taken one after the other: the state after the last, if every one is taken. -/
def State.runSteps (s : State) : List Instr → Option State
  | [] => some s
  | i :: rest =>
    match exec i s with
    | .next t => t.runSteps rest
    | .fault _ => none
    | .refused _ => none

/-- The steps that can take a stored bit from 1 to 0: a read of EDPRSR, a Cold or Warm reset, and a
power up that lost the state (R51). -/
def clearsStoredBits : Instr → Bool
  | .edprsrRd _ => true
  | .coldReset => true
  | .warmReset => true
  | .corePowerUp lost => lost
  | .edprsrWr _ _ => false
  | .oslarWr _ _ => false
  | .edlarWr _ _ => false
  | .dbgbvrLo _ _ _ => false
  | .dbgbvrHi _ _ _ => false
  | .dbgbcr _ _ _ => false
  | .dbgwvrLo _ _ _ => false
  | .dbgwvrHi _ _ _ => false
  | .dbgwcr _ _ _ => false
  | .resetRelease => false
  | .extDebugReset => false
  | .corePowerDown _ => false
  | .debugEntry => false
  | .debugExit => false
  | .pmuAccessFail _ => false
  | .traceAccessFail _ => false
  | .oslockSw _ => false
  | .osdlrWrite _ => false
  | .corenpdrqWrite _ => false
  | .authChange _ => false
  | .tracePower _ => false

/-- A stored bit of a record, by name (R32). -/
def Latches.get (l : Latches) : Sticky → Bool
  | .stad => l.stad
  | .sdr => l.sdr
  | .spmad => l.spmad
  | .sdad => l.sdad
  | .sr => l.sr
  | .spd => l.spd

/-- The word a step returned, if it returned one. -/
def Response.word? : Response → Option Word
  | .value v => some v
  | .nothing => none
  | .ok => none
  | .error => none

/-- The bit that a read returned in a field: `none` if the step returned no word. -/
def Response.field? (r : Response) (f : Field) : Option Bool :=
  r.word?.map fun v => v.getLsbD (fieldPos f)

/-- What SPD can be believed to say (R237, R137): while the core is not powered, the IMPLEMENTATION
DEFINED value of its power state; under the Double Lock 0, the one value that R137 determines there;
otherwise the stored bit. -/
def State.spdFact (s : State) : Bool :=
  match s.env.power with
  | .lowPower => s.cfg.spdLowPower
  | .off => s.cfg.spdPowerdown
  | .on => !s.doubleLocked && s.st.spd

/-- The fact each field reports when it is readable: the stored bit, or the live condition (R32, R34). -/
def State.fieldFact (s : State) (acc : AccessAttr) : Field → Bool
  | .stad => s.cfg.trbe && s.st.stad
  | .etad => s.cfg.trbe && !s.env.allowTrace.allows (asNonSecure acc)
  | .sdr => s.st.sdr
  | .spmad => s.st.spmad
  | .epmad => !s.env.allowPmu.allows (if s.cfg.v84 then asNonSecure acc else acc)
  | .sdad => s.st.sdad
  | .edad => !s.env.allowDebug.allows (if s.cfg.v84 then asNonSecure acc else acc)
  | .dlk => !s.cfg.v82 && s.doubleLocked
  | .oslk => s.env.oslk
  | .halted => s.env.halted
  | .sr => s.st.sr
  | .r => s.env.inReset
  | .spd => s.spdFact
  | .pu => s.corePowered

/-- May this field of a read word be believed? The order of R237: PU (if 0, SPD alone), then DLK before
ARMv8.2, then R, then OSLK before ARMv8.4. -/
def believable (c : Config) (v : Word) (f : Field) : Bool :=
  let bit (g : Field) : Bool := v.getLsbD (fieldPos g)
  if !bit .pu then f == .spd
  else if !c.v82 && bit .dlk then f == .pu || f == .halted || f == .dlk
  else if bit .r then f == .halted || f == .sr || f == .spd || f == .pu
  else if bit .oslk && !c.v84 then
    !(f == .spmad || f == .epmad) && (c.oslarErrOnEdad || !(f == .sdad || f == .edad))
  else true

end Sys2Proof.Machine
end

