-- ==== Sys2Proof/Certificates/Slice0/Obligations.lean ====
section
/-! DEFINITION. The statements for the provers. A free value is written out as `Config.drawBit s.draws site`: it has no body, so such a clause says the value is the draw of that site and nothing more. -/

open Sys2Proof Sys2Proof.Machine

/-! ### Labels and their encoding (30_encoding.md) -/

/-- R104, R105, R106: decoding the encoding of a well-formed label gives it back, every operand at
every value the encoding admits. -/
def Obligations.DecodeOfEncodeIsTheInstruction : Prop :=
  ∀ i : Instr, i.wellFormed = true → decode (encode i) = .ok i

/-- R104, R105, R106: a label that decodes is the encoding of what it decodes to (the ignored data
word of a read put to 0), so no two labels of different content are confused. -/
def Obligations.DecodedLabelEncodesBack : Prop :=
  ∀ (l : Label) (i : Instr), decode l = .ok i → i.wellFormed = true ∧ encode i = l.canonical

/-- R104, R105, R106: a label that decodes is a 4-byte access or an event, and its word matches the row
of the instruction it decodes to and no other row; a 4-byte access or an event that does not decode
matches no row. -/
def Obligations.DecoderFollowsTheOpcodeTable : Prop :=
  (∀ (l : Label) (i : Instr), decode l = .ok i →
    l.matchingRows.map OpcodeRow.mnemonic = [i.mnemonic] ∧
    ∀ (size : AccessSize) (w : BitVec 13) (data : Word) (acc : AccessAttr),
      l = .xdi size w data acc → size = .word) ∧
  (∀ (w : BitVec 13) (data : Word) (acc : AccessAttr) (why : LabelError),
    decode (.xdi .word w data acc) = .error why →
      (Label.xdi .word w data acc).matchingRows = []) ∧
  (∀ (w : BitVec 16) (why : LabelError), decode (.evt w) = .error why →
    (Label.evt w).matchingRows = [])

/-- R71, R73, R74, R104: the accesses that have a behaviour, by size, offset and direction. -/
def Obligations.DescribedAccessesByOffset : Prop :=
  ∀ (size : AccessSize) (w : BitVec 13) (data : Word) (acc : AccessAttr),
    (∃ i, decode (.xdi size w data acc) = .ok i) ↔
      size = .word ∧
      ((accessOffset w).toNat = 0x314 ∨
       (accessIsWrite w = true ∧
          ((accessOffset w).toNat = 0x300 ∨ (accessOffset w).toNat = 0xFB0)) ∨
       ∃ n < 16, ∃ base ∈ [0x400, 0x800], ∃ k ∈ [0, 4, 8],
          (accessOffset w).toNat = base + 16 * n + k)

/-- R104, R105: a few words, written out from the tables, decode to what they stand for. -/
def Obligations.FewWordsDecode : Prop :=
  ∀ acc : AccessAttr,
    decode (.xdi .word 0b0001100010100#13 0 acc) = .ok (.edprsrRd acc) ∧
    decode (.xdi .word 0b1001100000000#13 1 acc) = .ok (.oslarWr 1 acc) ∧
    decode (.xdi .word 0b1010000110100#13 7 acc) = .ok (.dbgbvrHi 3 (.write 7) acc) ∧
    decode (.xdi .word 0b0100011111000#13 7 acc) = .ok (.dbgwcr 15 .read acc) ∧
    decode (.evt 0b0000010100000001#16) = .ok (.corePowerDown .off) ∧
    decode (.evt 0b0000111100111110#16) = .ok (.authChange
      { traceS := true, traceNs := true, pmuS := true, pmuNs := true, dbgS := true, dbgNs := false })

/-! ### One step -/

/-- R31, R74, R80: a step takes one label: it runs the decoded instruction with that label gone from the
list, or refuses a label without a behaviour; with no label offered there is no step. That the labels
wait in a list taken oldest first, and that no step is the fault noStepOffered, are the model's choice
(log 2), and so is the form of the refusal (log 3). -/
def Obligations.StepRunsTheDecodedLabel : Prop :=
  ∀ s : State,
    (s.offered = [] → step s = .fault .noStepOffered) ∧
    (∀ (l : Label) (rest : List Label), s.offered = l :: rest →
      (∀ i, decode l = .ok i → step s = exec i { s with offered := rest }) ∧
      (∀ why, decode l = .error why → step s = .refused (.undescribedLabel why)))

/-- R170, R171: a label is taken exactly where its precondition holds; otherwise it is refused, as an
event whose precondition is false. The preconditions are the spec's own reading (log 16). Three points
are the model's: no label ends in a fault, since the error response of R62 and R200 is a next state here
(log 1); the form of the refusal (log 3); and PMU_ACCESS_FAIL and TRACE_ACCESS_FAIL are taken by the
permission of an access whose memory_mapped is drawn (log 6). -/
def Obligations.StepTakenExactlyWhenEnabled : Prop :=
  ∀ (i : Instr) (s : State),
    (s.enabled i = true → ∃ t, exec i s = .next t) ∧
    (s.enabled i = false → isAccess i = false ∧ ∃ e, exec i s = .refused (.eventNotEnabled e))

/-- R62, R170, R203: an event returns nothing, an access returns something, and a word comes from a read
only: of EDPRSR, or of one of the six breakpoint and watchpoint rows. The parameters never change and the
labels still to come are the environment's. That the parameters are a field of the state (log 5), that
the labels to come are one (log 2) and that the response is one (log 10) is the model's choice. -/
def Obligations.WhatEveryStepReturns : Prop :=
  ∀ (i : Instr) (s t : State), exec i s = .next t →
    t.cfg = s.cfg ∧ t.offered = s.offered ∧ s.draws ≤ t.draws ∧
    (isAccess i = false ↔ t.response = .nothing) ∧
    (∀ v, t.response = .value v →
      ∃ (n : Nat) (acc : AccessAttr), i ∈ [Instr.edprsrRd acc, .dbgbvrLo n .read acc,
        .dbgbvrHi n .read acc, .dbgbcr n .read acc, .dbgwvrLo n .read acc, .dbgwvrHi n .read acc,
        .dbgwcr n .read acc])

/-- R41, R44, R45, R46: the four status functions. Their bodies are the spec's readings (log 17). -/
def Obligations.StatusFunctions : Prop :=
  ∀ (s : State) (acc : AccessAttr),
    (s.corePowered = true ↔ s.env.power = .on) ∧
    (s.doubleLocked = true ↔ s.cfg.doubleLock = true ∧ s.env.osdlrDlk = true ∧
      s.env.corenpdrq = false ∧ s.env.halted = false) ∧
    (s.osLocked = true ↔ s.env.oslk = true) ∧
    (s.softwareLocked acc = true ↔ s.cfg.haveSoftwareLock = true ∧ acc.memoryMapped = true ∧
      s.env.slk = true)

/-- R9 to R13, R15: what the options exclude, and what each identification field reports of them, every
value it lists: EDDEVID.DebugPower, EDDEVARCH.ARCHVER, the two DoubleLock fields with their opposite
senses, ID_AA64DFR0_EL1.TraceBuffer and EDLSR.SLI. That ARMv8.4-Debug implies ARMv8.2-Debug is the spec's
decision D1 (log 11); that these fields are views and no labels is log 30. -/
def Obligations.OptionsAndTheirIdentification : Prop :=
  ∀ c : Config,
    (c.haveDopd = true → c.haveSoftwareLock = false) ∧
    (c.v84 = true → c.v82 = true) ∧ (c.v82 = true → c.oslarErrOnEdad = true) ∧
    c.eddevidDebugPower = (if c.haveDopd then 0b0001#4 else 0b0000#4) ∧
    (c.archver = 0b1001#4 ↔ c.v84 = true) ∧
    (c.archver = 0b1000#4 ↔ c.v82 = true ∧ c.v84 = false) ∧
    (c.archver = 0b0110#4 ∨ c.archver = 0b0111#4 ↔ c.v82 = false) ∧
    c.aa64DoubleLock = (if c.doubleLock then 0b0000#4 else 0b1111#4) ∧
    c.dbgdevidDoubleLock = (if c.doubleLock then 0b0001#4 else 0b0000#4) ∧
    c.aa64TraceBuffer = (if c.trbe then 0b0001#4 else 0b0000#4) ∧
    (∀ acc : AccessAttr,
      c.edlsrSli acc = true ↔ c.haveSoftwareLock = true ∧ acc.memoryMapped = true)

/-! ### EDPRSR.RD: whether it answers, and what it leaves -/

/-- R121: the read ends in the error response, with nothing else changed, exactly where ARMv8.3-DoPD
is implemented and the core is not powered; everywhere else it returns a word. Whatever the case, only
the stored bits can change. That a failed read changes nothing is the spec's decision D10. -/
def Obligations.ReadFailsOnlyUnpoweredWithDopd : Prop :=
  ∀ (acc : AccessAttr) (s : State),
    (s.cfg.haveDopd = true → s.env.power ≠ .on →
      exec (.edprsrRd acc) s = .next { s with response := .error }) ∧
    (s.cfg.haveDopd = false ∨ s.env.power = .on →
      ∃ st v, exec (.edprsrRd acc) s =
        .next { s with st := st, response := .value v, draws := s.draws + 1 })

/-- R141, R144: a read with the core powered, not double locked and not under the Software Lock clears
STAD, SPMAD, SDAD and SPD, and out of reset SDR and SR too; in reset SR stays and SDR becomes a draw
(the draw is the spec's decision D12, log 19). Everything else is as it was. -/
def Obligations.ReadClearsTheStickyBits : Prop :=
  ∀ (acc : AccessAttr) (s : State),
    s.env.power = .on → s.doubleLocked = false → s.softwareLocked acc = false →
    (s.env.inReset = false →
      ∃ v, exec (.edprsrRd acc) s =
        .next { s with
          st := { stad := false, sdr := false, spmad := false, sdad := false, sr := false, spd := false }
          response := .value v
          draws := s.draws + 1 }) ∧
    (s.env.inReset = true →
      ∃ v, exec (.edprsrRd acc) s =
        .next { s with
          st := { stad := false, sdr := Config.drawBit s.draws .sdrReadInReset, spmad := false,
                  sdad := false, sr := s.st.sr, spd := false }
          response := .value v
          draws := s.draws + 1 })

/-- R142: with the core powered and double locked (and no Software Lock for the access), each stored
bit is cleared as out of the lock or left as it was, by a draw of its own. -/
def Obligations.DoubleLockedReadClearsOrKeepsEachBit : Prop :=
  ∀ (acc : AccessAttr) (s : State),
    s.env.power = .on → s.env.inReset = false → s.doubleLocked = true →
    s.softwareLocked acc = false →
    ∃ t, exec (.edprsrRd acc) s = .next t ∧ t.env = s.env ∧ t.cfg = s.cfg ∧
      ∀ b, t.st.get b = (s.st.get b && Config.drawBit s.draws (.skipClear b))

/-- R140: under the Software Lock a read clears nothing and returns the word it would return without
the lock; an access that is not memory-mapped is never under the lock. -/
def Obligations.SoftwareLockedReadClearsNothing : Prop :=
  ∀ (acc : AccessAttr) (s : State),
    (acc.memoryMapped = false → s.softwareLocked acc = false) ∧
    (s.softwareLocked acc = true →
      ∃ v, exec (.edprsrRd acc) s =
          .next { s with response := .value v, draws := s.draws + 1 } ∧
        ∃ t, exec (.edprsrRd acc) { s with env := { s.env with slk := false } } = .next t ∧
          t.response = .value v)

/-- R143, R187: while the core is not powered, any number n of permitted reads leave the whole state as
it was, but for the last read's word and the index of the free values; each returns PU = 0 and the
implementation's SPD. So the first read after power up returns what it returns without them (n = 0).
After a power up with the state lost: SPD = SR = 1. After a restoring one: the stored bits are back;
unless the Double Lock is locked SPD and SR show them and DLK reads 0 (R132); and with nothing hidden
every field is the fact it reports in the state of before, powered again (CORENPDRQ may have been
reloaded). That a lost power up leaves SR at 1 and the Double Lock unlocked is PRESUMED: the Cold reset
applies the Warm reset values (decision D9, log 13). That restored means the earlier values is decision
D15 (log 23), kept as log 8 says. EPMAD and EDAD before ARMv8.4-Debug: decision D8 (log 22). -/
def Obligations.UnpoweredReadsChangeNothing : Prop :=
  ∀ (acc acc' : AccessAttr) (s : State) (n : Nat),
    s.env.power ≠ .on → s.cfg.haveDopd = false →
    ∃ t, s.runSteps (List.replicate n (.edprsrRd acc)) = some t ∧
      t = { s with response := t.response, draws := s.draws + n } ∧
      (0 < n → t.response.field? .pu = some false ∧
        t.response.field? .spd =
          some (if s.env.power = .off then s.cfg.spdPowerdown else s.cfg.spdLowPower)) ∧
      (∃ u w, exec (.corePowerUp true) t = .next u ∧ exec (.edprsrRd acc') u = .next w ∧
        w.response.field? .spd = some true ∧ w.response.field? .sr = some true) ∧
      (∃ u w, exec (.corePowerUp false) t = .next u ∧ u.st = s.st ∧
        exec (.edprsrRd acc') u = .next w ∧
        (u.doubleLocked = false →
          w.response.field? .spd = some s.st.spd ∧ w.response.field? .sr = some s.st.sr ∧
          w.response.field? .dlk = some false ∧
          (s.env.inReset = false → s.env.oslk = false ∨ s.cfg.v84 = true →
            ∀ f, w.response.field? f = some (State.fieldFact
              { s with env := { s.env with power := .on, corenpdrq := u.env.corenpdrq } } acc' f))))

/-- R236: of two reads in a row by anyone, the second shows every sticky bit 0 where it is readable:
what the first returned is gone. With the OS Lock set before ARMv8.4-Debug SPMAD is not readable, and
SDAD is only where OSLAR_EL1 writes fault (R127, R130). -/
def Obligations.SecondReadShowsNoStickyBit : Prop :=
  ∀ (acc acc' : AccessAttr) (s : State),
    s.env.power = .on → s.env.inReset = false → s.doubleLocked = false →
    s.softwareLocked acc = false →
    ∃ t, s.runSteps [.edprsrRd acc, .edprsrRd acc'] = some t ∧
      t.response.field? .stad = some false ∧ t.response.field? .sdr = some false ∧
      t.response.field? .sr = some false ∧ t.response.field? .spd = some false ∧
      (s.env.oslk = false ∨ s.cfg.v84 = true → t.response.field? .spmad = some false) ∧
      (s.env.oslk = false ∨ s.cfg.v84 = true ∨ s.cfg.oslarErrOnEdad = true →
        t.response.field? .sdad = some false)

/-! ### EDPRSR.RD: the word, regime by regime (R139) -/

/-- R124 to R138, last row of R139: core powered, out of reset, not double locked, and the OS Lock
clear or ARMv8.4-Debug: every field of the word is the fact it reports. That EPMAD and EDAD before
ARMv8.4-Debug report the permission of the reading access is the spec's decision D8 (log 22). -/
def Obligations.RunningReadReturnsEveryFact : Prop :=
  ∀ (acc : AccessAttr) (s : State),
    s.env.power = .on → s.env.inReset = false → s.doubleLocked = false →
    s.env.oslk = false ∨ s.cfg.v84 = true →
    ∃ t, exec (.edprsrRd acc) s = .next t ∧ ∀ f, t.response.field? f = some (s.fieldFact acc f)

/-- R127 to R131, third row of R139: the same with the OS Lock set before ARMv8.4-Debug: SPMAD and
EPMAD are draws, and SDAD and EDAD too where OSLAR_EL1 writes do not fault; every other field is the
fact it reports. That the draw covers EDAD before ARMv8.2-Debug is decision D11, and that EDAD otherwise
reports the permission of the reading access is decision D8 (log 22 for both). -/
def Obligations.OsLockedReadHidesTheAccessErrors : Prop :=
  ∀ (acc : AccessAttr) (s : State),
    s.env.power = .on → s.env.inReset = false → s.doubleLocked = false →
    s.env.oslk = true → s.cfg.v84 = false →
    ∃ t, exec (.edprsrRd acc) s = .next t ∧ ∀ f, t.response.field? f = some
      (if f = .spmad ∨ f = .epmad ∨ (s.cfg.oslarErrOnEdad = false ∧ (f = .sdad ∨ f = .edad)) then
        Config.drawBit s.draws (.read f)
       else s.fieldFact acc f)

/-- R124 to R138, second row of R139, and R136, R138: core powered, in reset, not double locked:
HALTED, SR and SPD are the facts, DLK is 0, STAD and ETAD are 0 without TRBE; R and PU are 1, unless
the reset was entered double locked, where R is a draw and PU is one too without ARMv8.3-DoPD (D19,
log 21); all else is a draw. -/
def Obligations.ReadInResetHidesTheRest : Prop :=
  ∀ (acc : AccessAttr) (s : State),
    s.env.power = .on → s.env.inReset = true → s.doubleLocked = false →
    ∃ t, exec (.edprsrRd acc) s = .next t ∧ ∀ f, t.response.field? f = some
      (match f with
       | .halted => s.env.halted
       | .sr => s.st.sr
       | .spd => s.st.spd
       | .dlk => false
       | .r => if s.env.resetEnteredDlk && s.cfg.doubleLock then
           Config.drawBit s.draws (.read .r) else true
       | .pu => if s.env.resetEnteredDlk && s.cfg.doubleLock && !s.cfg.haveDopd then
           Config.drawBit s.draws (.read .pu) else true
       | .stad => s.cfg.trbe && Config.drawBit s.draws (.read .stad)
       | .etad => s.cfg.trbe && Config.drawBit s.draws (.read .etad)
       | g => Config.drawBit s.draws (.read g))

/-- R124 to R138, first row of R139: a permitted read of an unpowered core returns PU = 0, the
implementation's SPD, DLK by its variant, and draws; STAD and ETAD are 0 without TRBE. -/
def Obligations.UnpoweredReadReturnsDraws : Prop :=
  ∀ (acc : AccessAttr) (s : State), s.env.power ≠ .on → s.cfg.haveDopd = false →
    ∃ t, exec (.edprsrRd acc) s = .next t ∧ ∀ f, t.response.field? f = some
      (match f with
       | .pu => false
       | .spd => if s.env.power = .off then s.cfg.spdPowerdown else s.cfg.spdLowPower
       | .dlk => !s.cfg.v84 && s.cfg.doubleLock && Config.drawBit s.draws (.read .dlk)
       | .stad => s.cfg.trbe && Config.drawBit s.draws (.read .stad)
       | .etad => s.cfg.trbe && Config.drawBit s.draws (.read .etad)
       | g => Config.drawBit s.draws (.read g))

/-- R132, R134, R137, R138: core powered, out of reset and double locked. HALTED is 0. With
ARMv8.2-Debug PU reads 0 (1 with ARMv8.3-DoPD) and SPD reads 0 (decision D23, log 20). Before it,
choice A reads PU = DLK = 1 with SPD a draw, choice B reads PU = SPD = 0 (PU = 1 with ARMv8.3-DoPD)
with DLK a draw. Every other field is a draw, STAD and ETAD 0 without TRBE. -/
def Obligations.DoubleLockedReadByVariant : Prop :=
  ∀ (acc : AccessAttr) (s : State),
    s.env.power = .on → s.env.inReset = false → s.doubleLocked = true →
    ∃ t, exec (.edprsrRd acc) s = .next t ∧ ∀ f, t.response.field? f = some
      (match f with
       | .halted => false
       | .pu => s.cfg.haveDopd || (!s.cfg.v82 && s.cfg.choiceA)
       | .spd => !s.cfg.v82 && s.cfg.choiceA && Config.drawBit s.draws (.read .spd)
       | .dlk => !s.cfg.v84 &&
           ((!s.cfg.v82 && s.cfg.choiceA) || Config.drawBit s.draws (.read .dlk))
       | .stad => s.cfg.trbe && Config.drawBit s.draws (.read .stad)
       | .etad => s.cfg.trbe && Config.drawBit s.draws (.read .etad)
       | g => Config.drawBit s.draws (.read g))

/-- R134: HALTED is UNKNOWN, a draw, while the core is not powered, and otherwise tells whether the PE is
in Debug state, in reset and under the Double Lock too; under the Double Lock it reads 0. -/
def Obligations.HaltedShowsDebugStateWhenPowered : Prop :=
  ∀ (acc : AccessAttr) (s : State), s.cfg.haveDopd = false ∨ s.env.power = .on →
    ∃ t, exec (.edprsrRd acc) s = .next t ∧
      (s.env.power ≠ .on →
        t.response.field? .halted = some (Config.drawBit s.draws (.read .halted))) ∧
      (s.env.power = .on → t.response.field? .halted = some s.env.halted) ∧
      (s.env.power = .on → s.doubleLocked = true → t.response.field? .halted = some false)

/-- R123, R107, R146: bits [31:14] of a read word are 0, bits [13:12] are 0 without TRBE, bit [6] is 0
with ARMv8.4-Debug and without the Double Lock. That RES0 bits read as 0 is decision D21 (log 12). -/
def Obligations.ReservedBitsReadAsZero : Prop :=
  ∀ (acc : AccessAttr) (s t : State) (v : Word),
    exec (.edprsrRd acc) s = .next t → t.response = .value v →
    v &&& 0xFFFFC000#32 = 0#32 ∧ v.toNat < 16384 ∧
    (s.cfg.trbe = false → v &&& 0x00003000#32 = 0#32) ∧
    (s.cfg.v84 = true ∨ s.cfg.doubleLock = false → v &&& 0x00000040#32 = 0#32)

/-- R210: with ARMv8.4-Debug the read does not depend on whether the access is Secure. -/
def Obligations.ReadIgnoresSecurityWithV84 : Prop :=
  ∀ (mm ns : Bool) (s : State), s.cfg.v84 = true →
    exec (.edprsrRd { memoryMapped := mm, nonSecure := ns }) s =
      exec (.edprsrRd { memoryMapped := mm, nonSecure := true }) s

/-- R237: WHICH FIELDS MAY BE BELIEVED. Whatever the state (with the invariant), a debugger that
examines PU, then DLK before ARMv8.2, then R, then OSLK before ARMv8.4, as R237 says, is told the
truth by every field it then believes. With PU = 0 that is SPD alone, and its truth is what R137 lets it
say there: the IMPLEMENTATION DEFINED value of the power state, or 0 under the Double Lock (decision D23,
log 20). Not with ARMv8.3-DoPD, where PU always reads 1, and not in a reset entered double locked, where
R and PU may read anything. The truth of EPMAD and EDAD before ARMv8.4-Debug is the permission of the
reading access, the spec's decision D8 (log 22). -/
def Obligations.BelievableFieldsAreTrue : Prop :=
  ∀ (acc : AccessAttr) (s t : State) (v : Word),
    s.Inv → s.cfg.haveDopd = false → s.inDoubleLockedReset = false →
    exec (.edprsrRd acc) s = .next t → t.response = .value v →
    ∀ f, believable s.cfg v f = true → v.getLsbD (fieldPos f) = s.fieldFact acc f

/-! ### The other accesses (41_write_access.md) -/

/-- R160, R162: a write of EDPRSR changes nothing, whatever its data: it is acknowledged, or fails where
a read fails. That a write to a read-only register is ignored is general knowledge (log 12). -/
def Obligations.WriteOfEdprsrIsIgnored : Prop :=
  ∀ (data : Word) (acc : AccessAttr) (s : State),
    exec (.edprsrWr data acc) s = .next
      { s with response :=
          if s.cfg.haveDopd = true ∧ s.env.power ≠ .on then .error else .ok }

/-- R195, R163: a permitted write of OSLAR_EL1 copies bit [0] of the data to the OS Lock and does
nothing else, whatever bits [31:1] and the OS Lock were, and the next read out of reset shows it in
OSLK. -/
def Obligations.PermittedOslarWriteSetsTheOsLock : Prop :=
  ∀ (data : Word) (acc acc' : AccessAttr) (s : State),
    s.env.power = .on → s.doubleLocked = false →
    s.env.allowDebug.allows acc = true ∨ s.cfg.oslarErrOnEdad = false →
    s.softwareLocked acc = false →
    exec (.oslarWr data acc) s = .next
      { s with env := { s.env with oslk := data.getLsbD 0 }, response := .ok } ∧
    (s.env.inReset = false →
      ∃ t, s.runSteps [.oslarWr data acc, .edprsrRd acc'] = some t ∧
        t.response.field? .oslk = some (data.getLsbD 0))

/-- R163: under the Software Lock a permitted write of OSLAR_EL1 is acknowledged and ignored. -/
def Obligations.OslarWriteIgnoredUnderSoftwareLock : Prop :=
  ∀ (data : Word) (acc : AccessAttr) (s : State),
    s.env.power = .on → s.doubleLocked = false →
    s.env.allowDebug.allows acc = true ∨ s.cfg.oslarErrOnEdad = false →
    s.softwareLocked acc = true →
    exec (.oslarWr data acc) s = .next { s with response := .ok }

/-- R163, R190: a failed write of OSLAR_EL1 returns the error response and changes nothing but
`st.sdad`. Unpowered, or permitted: SDAD stays. Not permitted and double locked, or Secure with
ARMv8.4-Debug: a draw (decision D13, log 18). Not permitted and nothing else: SDAD is set. -/
def Obligations.FailedOslarWriteAndSdad : Prop :=
  ∀ (data : Word) (acc : AccessAttr) (s : State),
    s.env.power ≠ .on ∨ s.doubleLocked = true ∨
      (s.env.allowDebug.allows acc = false ∧ s.cfg.oslarErrOnEdad = true) →
    exec (.oslarWr data acc) s = .next
      { s with
        st := { s.st with sdad :=
          if s.env.power ≠ .on ∨ s.env.allowDebug.allows acc = true ∨ s.cfg.oslarErrOnEdad = false
          then s.st.sdad
          else if s.doubleLocked = true ∨ (s.cfg.v84 = true ∧ acc.nonSecure = false)
          then s.st.sdad || Config.drawBit s.draws (.maybeSet .sdad)
          else true }
        response := .error
        draws := s.draws + 1 }

/-- R164, R196: a write of EDLAR fails where a read of EDPRSR fails; otherwise it is acknowledged, and
a memory-mapped one with the Software Lock implemented clears the lock for the key and sets it for any
other value. That another write leaves the lock alone is decision D18 (log 24). -/
def Obligations.EdlarWriteSetsTheSoftwareLock : Prop :=
  ∀ (data : Word) (acc : AccessAttr) (s : State),
    (s.cfg.haveDopd = true → s.env.power ≠ .on →
      exec (.edlarWr data acc) s = .next { s with response := .error }) ∧
    (s.cfg.haveDopd = false ∨ s.env.power = .on →
      exec (.edlarWr data acc) s = .next
        (if s.cfg.haveSoftwareLock = true ∧ acc.memoryMapped = true then
          { s with env := { s.env with slk := decide (data ≠ 0xC5ACCE55#32) }, response := .ok }
         else { s with response := .ok }))

/-- R165: an access to a breakpoint or watchpoint register with the core powered, neither lock set and
the permission given succeeds, whatever the register and its number: a write is acknowledged, a read
returns a word nothing is known of (decision D22, log 15), and nothing else changes. -/
def Obligations.PermittedBreakpointWatchpointAccess : Prop :=
  ∀ (n : Nat) (acc : AccessAttr) (data : Word) (s : State),
    s.env.power = .on → s.doubleLocked = false → s.env.oslk = false →
    s.env.allowDebug.allows acc = true →
    (∀ i ∈ [Instr.dbgbvrLo n (.write data) acc, .dbgbvrHi n (.write data) acc,
        .dbgbcr n (.write data) acc, .dbgwvrLo n (.write data) acc, .dbgwvrHi n (.write data) acc,
        .dbgwcr n (.write data) acc],
      exec i s = .next { s with response := .ok }) ∧
    (∀ i ∈ [Instr.dbgbvrLo n .read acc, .dbgbvrHi n .read acc, .dbgbcr n .read acc,
        .dbgwvrLo n .read acc, .dbgwvrHi n .read acc, .dbgwcr n .read acc],
      exec i s = .next
        { s with response := .value (Config.drawWord s.draws), draws := s.draws + 1 })

/-- R165, R190: a failed access to a breakpoint or watchpoint register, read or write, returns the error
response and changes nothing but `st.sdad`. Unpowered, or permitted: SDAD stays. Not permitted and a
lock set, or Secure with ARMv8.4-Debug: a draw (D13, log 18). Not permitted and nothing else: set. -/
def Obligations.FailedBreakpointWatchpointAccessAndSdad : Prop :=
  ∀ (n : Nat) (op : RegOp) (acc : AccessAttr) (s : State),
    s.env.power ≠ .on ∨ s.doubleLocked = true ∨ s.env.oslk = true ∨
      s.env.allowDebug.allows acc = false →
    ∀ i ∈ [Instr.dbgbvrLo n op acc, .dbgbvrHi n op acc, .dbgbcr n op acc, .dbgwvrLo n op acc,
        .dbgwvrHi n op acc, .dbgwcr n op acc],
      exec i s = .next
        { s with
          st := { s.st with sdad :=
            if s.env.power ≠ .on ∨ s.env.allowDebug.allows acc = true then s.st.sdad
            else if s.doubleLocked = true ∨ s.env.oslk = true ∨
                (s.cfg.v84 = true ∧ acc.nonSecure = false)
            then s.st.sdad || Config.drawBit s.draws (.maybeSet .sdad)
            else true }
          response := .error
          draws := s.draws + 1 }

/-- R190, R141, R130: an access that fails for want of permission alone is reported by SDAD = 1 in the
next read, and by 0 in the one after. -/
def Obligations.FailedAccessIsReportedOnce : Prop :=
  ∀ (i : Instr) (acc acc' acc'' : AccessAttr) (s : State),
    debugRegisterAccess i = some acc →
    s.env.power = .on → s.env.inReset = false → s.doubleLocked = false → s.env.oslk = false →
    s.env.allowDebug.allows acc = false → s.cfg.oslarErrOnEdad = true →
    s.cfg.v84 = false ∨ acc.nonSecure = true → s.softwareLocked acc' = false →
    ∃ t u w, exec i s = .next t ∧ t.response = .error ∧
      exec (.edprsrRd acc') t = .next u ∧ u.response.field? .sdad = some true ∧
      exec (.edprsrRd acc'') u = .next w ∧ w.response.field? .sdad = some false

/-- R200, R201, R205: when each access ends in the error response, and that it then changes nothing but
`st.sdad`, which it can only set (decision D10). -/
def Obligations.ErrorResponseConditionsAndEffect : Prop :=
  ∀ (i : Instr) (s t : State), exec i s = .next t →
    (t.response = .error ↔ s.accessError i = true) ∧
    (t.response = .error →
      t.env = s.env ∧ t.st = { s.st with sdad := t.st.sdad } ∧
      (s.st.sdad = true → t.st.sdad = true) ∧
      (debugRegisterAccess i = none → t.st = s.st))

/-! ### Events (42_indirect_updates.md) -/

/-- R180: a Cold reset. Applying the Warm reset values too is the spec's general knowledge (D9, log 13);
that the permissions become anything is D17 (log 6). -/
def Obligations.ColdResetEffect : Prop :=
  ∀ s : State, s.env.power = .on →
    exec .coldReset s = .next
      { s with
        st := { stad := false, sdr := Config.drawBit s.draws .sdrReset, spmad := false,
                sdad := false, sr := true, spd := true }
        env := { power := .on
                 inReset := true
                 resetEnteredDlk :=
                   if s.env.inReset = true then s.env.resetEnteredDlk else s.doubleLocked
                 halted := false
                 osdlrDlk := false
                 corenpdrq := Config.drawBit s.draws .corenpdrqCold
                 oslk := true
                 slk := s.env.slk
                 allowDebug := .drawn s.draws .debug
                 allowPmu := .drawn s.draws .pmu
                 allowTrace := .drawn s.draws .trace
                 tracePowered := s.env.tracePowered }
        response := .nothing
        draws := s.draws + 1 }

/-- R181: a Warm reset. It leaves STAD, SPMAD, SDAD, SPD, the OS Lock and CORENPDRQ alone. That the
permissions become anything is D17 (log 6). -/
def Obligations.WarmResetEffect : Prop :=
  ∀ s : State, s.env.power = .on →
    exec .warmReset s = .next
      { s with
        st := { s.st with sr := true, sdr := Config.drawBit s.draws .sdrReset }
        env := { s.env with
                 inReset := true
                 resetEnteredDlk :=
                   if s.env.inReset = true then s.env.resetEnteredDlk else s.doubleLocked
                 halted := false
                 osdlrDlk := false
                 allowDebug := .drawn s.draws .debug
                 allowPmu := .drawn s.draws .pmu
                 allowTrace := .drawn s.draws .trace }
        response := .nothing
        draws := s.draws + 1 }

/-- R182: where the core is powered and in reset, releasing the reset changes nothing but the reset
state. SR stays 1 until the next read: through any further steps without a read of EDPRSR it is 1, and
the first read that can show it (powered, not double locked) shows 1 and, out of reset and not under the
Software Lock, clears it. That a Cold reset among the steps leaves SR 1 is decision D9 (log 13), and that
a restoring power up does is decision D15 (log 8, log 23). -/
def Obligations.ResetReleaseEffect : Prop :=
  ∀ s : State, s.env.power = .on → s.env.inReset = true →
    ∃ t, exec .resetRelease s = .next t ∧
      t = { s with env := { s.env with inReset := false }, response := .nothing } ∧
      (s.st.sr = true → ∀ (is : List Instr) (u : State) (acc : AccessAttr),
        (∀ i ∈ is, ∀ acc', i ≠ .edprsrRd acc') → t.runSteps is = some u →
          u.st.sr = true ∧
          (u.env.power = .on → u.doubleLocked = false →
            ∃ w, exec (.edprsrRd acc) u = .next w ∧ w.response.field? .sr = some true ∧
              (u.env.inReset = false → u.softwareLocked acc = false → w.st.sr = false)))

/-- R184: an External debug reset sets the Software Lock where there is one and touches nothing else;
in particular no stored bit of EDPRSR (log 29). -/
def Obligations.ExternalDebugResetEffect : Prop :=
  ∀ s : State,
    exec .extDebugReset s = .next
      { s with env := { s.env with slk := s.env.slk || s.cfg.haveSoftwareLock },
               response := .nothing }

/-- R186: the core leaves the powerup state: to a low-power state, or to the powerdown state, and to that
one only while CORENPDRQ is 0: with CORENPDRQ 1 the event is refused (the precondition is log 16, the
form of the refusal log 3). Nothing else of the state is written; from here on the stored bits are lost,
and the model keeps their last values for a restoring power up only (log 8). -/
def Obligations.CorePowerDownEffect : Prop :=
  ∀ s : State,
    (s.env.power = .on →
      exec (.corePowerDown .lowPower) s = .next
        { s with env := { s.env with power := .lowPower }, response := .nothing }) ∧
    (s.env.power ≠ .off → s.env.corenpdrq = false →
      exec (.corePowerDown .off) s = .next
        { s with env := { s.env with power := .off }, response := .nothing }) ∧
    (s.env.corenpdrq = true →
      exec (.corePowerDown .off) s = .refused (.eventNotEnabled .corePowerDown))

/-- R187: a power up with the state lost is a Cold reset of a powered core, not entered double locked,
whatever the locks were (decision D15, log 23). -/
def Obligations.PowerUpLostIsAColdReset : Prop :=
  ∀ s : State, s.env.power ≠ .on →
    ∃ t, exec .coldReset { s with env := { s.env with power := .on } } = .next t ∧
      exec (.corePowerUp true) s =
        .next { t with env := { t.env with resetEnteredDlk := false } }

/-- R187: a restoring power up keeps the stored bits and everything else, but for CORENPDRQ, which is
unchanged or its Cold reset value, by a draw (decision D15, log 23). -/
def Obligations.PowerUpRestoredKeepsTheBits : Prop :=
  ∀ s : State, s.env.power ≠ .on →
    exec (.corePowerUp false) s = .next
      { s with
        env := { s.env with
          power := .on
          corenpdrq := if Config.drawBit s.draws .corenpdrqReload = true
            then Config.drawBit s.draws .corenpdrqCold else s.env.corenpdrq }
        response := .nothing
        draws := s.draws + 1 }

/-- R177, R44: entering Debug state changes nothing but that, and unlocks the Double Lock. -/
def Obligations.DebugEntryEffect : Prop :=
  ∀ s : State, s.env.power = .on → s.env.inReset = false → s.env.halted = false →
    ∃ t, exec .debugEntry s = .next t ∧
      t = { s with env := { s.env with halted := true }, response := .nothing } ∧
      t.doubleLocked = false

/-- R178: leaving Debug state sets SDR in the same step and changes nothing else; the Double Lock is
locked from then on if OSDLR_EL1.DLK is 1, CORENPDRQ is 0 and the lock is implemented. -/
def Obligations.DebugExitEffect : Prop :=
  ∀ s : State, s.env.power = .on → s.env.halted = true →
    ∃ t, exec .debugExit s = .next t ∧
      t = { s with st := { s.st with sdr := true }, env := { s.env with halted := false },
                   response := .nothing } ∧
      (t.doubleLocked = true ↔
        s.cfg.doubleLock = true ∧ s.env.osdlrDlk = true ∧ s.env.corenpdrq = false)

/-- R191: a failed access to a Performance Monitors register, where both possible accesses of that
Security state fail. Unpowered, or permitted: SPMAD stays. Not permitted and a lock set, or Secure with
ARMv8.4-Debug: a draw (D13, log 18). Not permitted and nothing else: set. Nothing else changes. The
access is memory-mapped or not by a draw, since the label does not say (log 6). -/
def Obligations.PmuAccessFailEffect : Prop :=
  ∀ (ns : Bool) (s : State),
    s.env.power ≠ .on ∨ s.doubleLocked = true ∨ s.env.oslk = true ∨
      (s.env.allowPmu.allows { memoryMapped := false, nonSecure := ns } = false ∧
       s.env.allowPmu.allows { memoryMapped := true, nonSecure := ns } = false) →
    exec (.pmuAccessFail ns) s = .next
      { s with
        st := { s.st with spmad :=
          if s.env.power ≠ .on ∨ s.env.allowPmu.allows (s.failingAccess ns) = true
          then s.st.spmad
          else if s.doubleLocked = true ∨ s.env.oslk = true ∨ (s.cfg.v84 = true ∧ ns = false)
          then s.st.spmad || Config.drawBit s.draws (.maybeSet .spmad)
          else true }
        response := .nothing
        draws := s.draws + 1 }

/-- R192: a failed access to a trace unit register, likewise. Without TRBE, unpowered, Secure, or
permitted: STAD stays. Not permitted and the OS Lock set or the trace unit unpowered: a draw (D13,
log 18). Not permitted and nothing else: set. Nothing else changes (memory-mapped or not: log 6). -/
def Obligations.TraceAccessFailEffect : Prop :=
  ∀ (ns : Bool) (s : State),
    s.env.oslk = true ∨ s.env.tracePowered = false ∨
      (s.env.allowTrace.allows { memoryMapped := false, nonSecure := ns } = false ∧
       s.env.allowTrace.allows { memoryMapped := true, nonSecure := ns } = false) →
    exec (.traceAccessFail ns) s = .next
      { s with
        st := { s.st with stad :=
          if s.cfg.trbe = false ∨ s.env.power ≠ .on ∨ ns = false ∨
              s.env.allowTrace.allows (s.failingAccess ns) = true
          then s.st.stad
          else if s.env.oslk = true ∨ s.env.tracePowered = false
          then s.st.stad || Config.drawBit s.draws (.maybeSet .stad)
          else true }
        response := .nothing
        draws := s.draws + 1 }

/-- R193, R194, R189: the writes of OSLAR_EL1 and OSDLR_EL1 by software and of CORENPDRQ write that bit
and nothing else; OSDLR_EL1.DLK stays 0 without the Double Lock. That CORENPDRQ_WRITE is taken in every
powered state, in reset and under every lock, is the spec's deliberately wide choice D14 (C15, log 16). -/
def Obligations.LockAndPowerRequestWrites : Prop :=
  ∀ (b : Bool) (s : State), s.env.power = .on →
    (s.env.inReset = false →
      exec (.oslockSw b) s = .next
        { s with env := { s.env with oslk := b }, response := .nothing } ∧
      exec (.osdlrWrite b) s = .next
        { s with
          env := { s.env with osdlrDlk := if s.cfg.doubleLock = true then b else s.env.osdlrDlk }
          response := .nothing }) ∧
    exec (.corenpdrqWrite b) s = .next
      { s with env := { s.env with corenpdrq := b }, response := .nothing }

/-- R197: AUTH_CHANGE sets the three permissions, for both values of `memory_mapped`, and nothing else;
the next read with nothing hidden (the OS Lock clear, or ARMv8.4-Debug) shows them in ETAD, EPMAD and
EDAD. That EPMAD and EDAD before ARMv8.4-Debug report the permission of the reading access is the spec's
decision D8 (log 22). -/
def Obligations.AuthChangeShowsInTheNextRead : Prop :=
  ∀ (m : AuthBits) (acc : AccessAttr) (s : State),
    ∃ t, exec (.authChange m) s = .next t ∧
      t = { s with env := t.env, response := .nothing } ∧
      t.env = { s.env with allowDebug := t.env.allowDebug, allowPmu := t.env.allowPmu,
                           allowTrace := t.env.allowTrace } ∧
      (∀ a : AccessAttr,
        t.env.allowDebug.allows a = (if a.nonSecure then m.dbgNs else m.dbgS) ∧
        t.env.allowPmu.allows a = (if a.nonSecure then m.pmuNs else m.pmuS) ∧
        t.env.allowTrace.allows a = (if a.nonSecure then m.traceNs else m.traceS)) ∧
      (s.env.power = .on → s.env.inReset = false → s.doubleLocked = false →
        s.env.oslk = false ∨ s.cfg.v84 = true →
        ∃ u, exec (.edprsrRd acc) t = .next u ∧
          u.response.field? .etad = some (s.cfg.trbe && !m.traceNs) ∧
          u.response.field? .epmad =
            some (!(if s.cfg.v84 || acc.nonSecure then m.pmuNs else m.pmuS)) ∧
          u.response.field? .edad =
            some (!(if s.cfg.v84 || acc.nonSecure then m.dbgNs else m.dbgS)))

/-- R198: TRACE_POWER sets what `IsTraceCorePowered()` reports. No read of EDPRSR depends on it, neither
the word nor what the read leaves; no other label but TRACE_ACCESS_FAIL does, and that one not while the
OS Lock is set, which meets its precondition and its overlap test alike. -/
def Obligations.TracePowerEffect : Prop :=
  ∀ (on : Bool) (s : State),
    exec (.tracePower on) s = .next
      { s with env := { s.env with tracePowered := on }, response := .nothing } ∧
    (∀ acc, ∃ r st k,
      exec (.edprsrRd acc) s = .next { s with st := st, response := r, draws := k } ∧
      exec (.edprsrRd acc) { s with env := { s.env with tracePowered := on } } = .next
        { s with env := { s.env with tracePowered := on }, st := st, response := r, draws := k }) ∧
    (∀ i : Instr, (∀ b, i ≠ .tracePower b) →
      (∀ ns, i = .traceAccessFail ns → s.env.oslk = true) →
      (∀ t, exec i s = .next t →
        exec i { s with env := { s.env with tracePowered := on } } =
          .next { t with env := { t.env with tracePowered := on } }) ∧
      (∀ why, exec i s = .refused why →
        exec i { s with env := { s.env with tracePowered := on } } = .refused why))

/-! ### The whole machine: only these steps do it -/

/-- R51, R172: the only steps that set a stored bit. STAD: a failed Non-secure trace access with TRBE.
SDR: an exit from Debug state, or a draw at a reset, at a power up with the state lost or at a read in
reset. SPMAD: a failed PMU access. SDAD: a failed debug register access without permission. SR: a reset.
SPD: a Cold reset. And none of the three access errors is recorded with the core unpowered. That a
restoring power up sets nothing is the spec's decision D15 (log 8, log 23). -/
def Obligations.OnlyTheseStepsSetAStoredBit : Prop :=
  ∀ (i : Instr) (s t : State), exec i s = .next t →
    (s.st.stad = false → t.st.stad = true →
      s.cfg.trbe = true ∧ s.env.power = .on ∧ i = .traceAccessFail true) ∧
    (s.st.sdr = false → t.st.sdr = true →
      i = .debugExit ∨ i = .coldReset ∨ i = .warmReset ∨ i = .corePowerUp true ∨
      (s.env.inReset = true ∧ ∃ acc, i = .edprsrRd acc)) ∧
    (s.st.spmad = false → t.st.spmad = true →
      s.env.power = .on ∧ ∃ ns, i = .pmuAccessFail ns) ∧
    (s.st.sdad = false → t.st.sdad = true →
      s.env.power = .on ∧ t.response = .error ∧
      ∃ acc, debugRegisterAccess i = some acc ∧ s.env.allowDebug.allows acc = false) ∧
    (s.st.sr = false → t.st.sr = true → i = .coldReset ∨ i = .warmReset ∨ i = .corePowerUp true) ∧
    (s.st.spd = false → t.st.spd = true → i = .coldReset ∨ i = .corePowerUp true)

/-- R51, R141, R143: the only steps that clear a stored bit. A read does, with the core powered and not
under the Software Lock, and SR only out of reset. A Cold reset and a power up with the state lost clear
STAD, SPMAD and SDAD and redraw SDR. A Warm reset redraws SDR. Nothing but a read clears SR or SPD.
That a restoring power up clears nothing is the spec's decision D15 (log 8, log 23). -/
def Obligations.OnlyTheseStepsClearAStoredBit : Prop :=
  ∀ (i : Instr) (s t : State) (b : Sticky), exec i s = .next t →
    s.st.get b = true → t.st.get b = false →
      (∃ acc, i = .edprsrRd acc ∧ s.env.power = .on ∧ s.softwareLocked acc = false ∧
        (b = .sr → s.env.inReset = false)) ∨
      (b ≠ .sr ∧ b ≠ .spd ∧ (i = .coldReset ∨ i = .corePowerUp true)) ∨
      (b = .sdr ∧ i = .warmReset)

/-- R171, the column of the inputs: the only steps that change each input EDPRSR observes, all twelve of
them. -/
def Obligations.OnlyTheseStepsChangeAnInput : Prop :=
  ∀ (i : Instr) (s t : State), exec i s = .next t →
    (t.env.power ≠ s.env.power → (∃ k, i = .corePowerDown k) ∨ ∃ lost, i = .corePowerUp lost) ∧
    (t.env.inReset ≠ s.env.inReset →
      i = .coldReset ∨ i = .warmReset ∨ i = .resetRelease ∨ i = .corePowerUp true) ∧
    (t.env.resetEnteredDlk ≠ s.env.resetEnteredDlk →
      i = .coldReset ∨ i = .warmReset ∨ i = .corePowerUp true) ∧
    (t.env.halted ≠ s.env.halted →
      i = .coldReset ∨ i = .warmReset ∨ i = .corePowerUp true ∨ i = .debugEntry ∨ i = .debugExit) ∧
    (t.env.osdlrDlk ≠ s.env.osdlrDlk →
      i = .coldReset ∨ i = .warmReset ∨ i = .corePowerUp true ∨ ∃ b, i = .osdlrWrite b) ∧
    (t.env.corenpdrq ≠ s.env.corenpdrq →
      i = .coldReset ∨ (∃ lost, i = .corePowerUp lost) ∨ ∃ b, i = .corenpdrqWrite b) ∧
    (t.env.oslk ≠ s.env.oslk →
      i = .coldReset ∨ i = .corePowerUp true ∨ (∃ b, i = .oslockSw b) ∨
      ∃ data acc, i = .oslarWr data acc) ∧
    (t.env.slk ≠ s.env.slk → i = .extDebugReset ∨ ∃ data acc, i = .edlarWr data acc) ∧
    (t.env.allowDebug ≠ s.env.allowDebug ∨ t.env.allowPmu ≠ s.env.allowPmu ∨
        t.env.allowTrace ≠ s.env.allowTrace →
      i = .coldReset ∨ i = .warmReset ∨ i = .corePowerUp true ∨ ∃ m, i = .authChange m) ∧
    (t.env.tracePowered ≠ s.env.tracePowered → ∃ on, i = .tracePower on)

/-- R56 (c), R172: while the core is not powered nothing changes the stored bits but a power up with
the state lost. R171 lists all six as written by any power up; that a restoring one writes back the
earlier values is the spec's decision D15 (log 23), and the model keeps them meanwhile (log 8). -/
def Obligations.UnpoweredBitsAreUntouched : Prop :=
  ∀ (i : Instr) (s t : State), s.env.power ≠ .on → exec i s = .next t →
    i ≠ .corePowerUp true → t.st = s.st

/-- R173, R76: NO SETTING IS LOST. Through any sequence of steps without a read of EDPRSR, a reset or a
power up that lost the state, every stored bit that is 1 stays 1, however long the sequence. It rests on
the spec's atomic steps (decision D5, log 14) and, where the sequence holds a powerdown and a restoring
power up, on restored meaning the earlier values (decision D15, log 8, log 23). -/
def Obligations.NoSettingIsLost : Prop :=
  ∀ (is : List Instr) (s t : State) (b : Sticky),
    s.runSteps is = some t → (∀ i ∈ is, clearsStoredBits i = false) →
    s.st.get b = true → t.st.get b = true

/-- R56, R177, R193: THE INVARIANT of the model is kept by every step, from every state that has it.
That a Cold reset keeps it rests on its applying the Warm reset values (decision D9, PRESUMED, log 13),
and that a restoring power up does on restored meaning the earlier values (decision D15, log 8, log 23). -/
def Obligations.EveryStepKeepsTheInvariant : Prop :=
  ∀ s t : State, s.Inv → step s = .next t → t.Inv

/-- R234, R56: the initial state has the invariant. -/
def Obligations.InvariantHoldsAtReset : Prop := State.reset.Inv

/-- R234: the initial state, at every field the spec gives a value (decision D16); the others are free
values. -/
def Obligations.ResetValues : Prop :=
  State.reset.env.power = .on ∧ State.reset.env.inReset = true ∧
  State.reset.env.resetEnteredDlk = false ∧ State.reset.env.halted = false ∧
  State.reset.env.oslk = true ∧ State.reset.env.osdlrDlk = false ∧ State.reset.env.slk = true ∧
  State.reset.st.stad = false ∧ State.reset.st.spmad = false ∧ State.reset.st.sdad = false ∧
  State.reset.st.spd = true ∧ State.reset.st.sr = true

/-! ### Sequences -/

/-- R233, the three Cold reset rows: what EDPRSR shows in the reset, in the first read after its release
and in the second, whatever the core held before. The fields that the rows call UNKNOWN are left out
here: ReadInResetHidesTheRest and OsLockedReadHidesTheAccessErrors say them. That a Cold reset applies
the Warm reset values, so that SR reads 1 and SDR is drawn, is PRESUMED (decision D9, general knowledge
of the spec, log 13). -/
def Obligations.ColdResetAsTheDebuggerSeesIt : Prop :=
  ∀ (acc : AccessAttr) (s : State), s.env.power = .on → s.softwareLocked acc = false →
    (s.doubleLocked = false → s.env.inReset = false →
      ∃ t, s.runSteps [.coldReset, .edprsrRd acc] = some t ∧
        t.response.field? .r = some true ∧ t.response.field? .sr = some true ∧
        t.response.field? .spd = some true ∧ t.response.field? .halted = some false ∧
        t.response.field? .pu = some true ∧ t.response.field? .dlk = some false) ∧
    (∃ t, s.runSteps [.coldReset, .resetRelease, .edprsrRd acc] = some t ∧
      t.response.field? .r = some false ∧ t.response.field? .sr = some true ∧
      t.response.field? .spd = some true ∧ t.response.field? .oslk = some true ∧
      t.response.field? .halted = some false ∧ t.response.field? .pu = some true ∧
      t.response.field? .sdr = some (Config.drawBit s.draws .sdrReset) ∧
      t.response.field? .stad = some false ∧
      (s.cfg.v84 = true → t.response.field? .spmad = some false) ∧
      (s.cfg.v84 = true ∨ s.cfg.oslarErrOnEdad = true → t.response.field? .sdad = some false) ∧
      ∃ u, exec (.edprsrRd acc) t = .next u ∧
        u.response.field? .r = some false ∧ u.response.field? .sr = some false ∧
        u.response.field? .spd = some false ∧ u.response.field? .oslk = some true ∧
        u.response.field? .halted = some false ∧ u.response.field? .sdr = some false)

/-- R233, the three Warm reset rows, and R238: in the reset, and in the two reads after its release. SPD
and the OS Lock are as they were, SR reports the reset, HALTED reads 0 although the PE was halted, and
SDR says nothing. The sticky error bits are as stored, where the OS Lock leaves them readable (R127,
R130), and gone in the second read. The fields the rows call UNKNOWN are left out here:
ReadInResetHidesTheRest and OsLockedReadHidesTheAccessErrors say them. -/
def Obligations.WarmResetAsTheDebuggerSeesIt : Prop :=
  ∀ (acc : AccessAttr) (s : State), s.env.power = .on → s.softwareLocked acc = false →
    (s.doubleLocked = false → s.env.inReset = false →
      ∃ t, s.runSteps [.warmReset, .edprsrRd acc] = some t ∧
        t.response.field? .r = some true ∧ t.response.field? .sr = some true ∧
        t.response.field? .spd = some s.st.spd ∧ t.response.field? .halted = some false ∧
        t.response.field? .pu = some true ∧ t.response.field? .dlk = some false) ∧
    (∃ t, s.runSteps [.warmReset, .resetRelease, .edprsrRd acc] = some t ∧
      t.response.field? .r = some false ∧ t.response.field? .sr = some true ∧
      t.response.field? .spd = some s.st.spd ∧ t.response.field? .oslk = some s.env.oslk ∧
      t.response.field? .halted = some false ∧ t.response.field? .pu = some true ∧
      t.response.field? .sdr = some (Config.drawBit s.draws .sdrReset) ∧
      t.response.field? .stad = some (s.cfg.trbe && s.st.stad) ∧
      (s.env.oslk = false ∨ s.cfg.v84 = true → t.response.field? .spmad = some s.st.spmad) ∧
      (s.env.oslk = false ∨ s.cfg.v84 = true ∨ s.cfg.oslarErrOnEdad = true →
        t.response.field? .sdad = some s.st.sdad) ∧
      ∃ u, exec (.edprsrRd acc) t = .next u ∧
        u.response.field? .r = some false ∧ u.response.field? .sr = some false ∧
        u.response.field? .spd = some false ∧ u.response.field? .oslk = some s.env.oslk ∧
        u.response.field? .halted = some false ∧ u.response.field? .sdr = some false ∧
        u.response.field? .stad = some false ∧
        (s.env.oslk = false ∨ s.cfg.v84 = true → u.response.field? .spmad = some false) ∧
        (s.env.oslk = false ∨ s.cfg.v84 = true ∨ s.cfg.oslarErrOnEdad = true →
          u.response.field? .sdad = some false))

/-- R188: the life of SPD. After a powerdown to a low-power state or to the powerdown state that lost the
state, the first read out of reset returns SPD = 1 and the second 0; after one that kept it, SPD is what
it was before. That the first needs no premise on the Double Lock rests on the Cold reset clearing
OSDLR_EL1.DLK, a Warm reset value (decision D9, PRESUMED, log 13). That restored means the earlier values
is the spec's decision D15 (log 8, log 23). -/
def Obligations.LifeOfSpd : Prop :=
  ∀ (k : DownTo) (acc : AccessAttr) (s : State), s.env.power = .on →
    (k = .off → s.env.corenpdrq = false) →
    s.env.inReset = false → s.softwareLocked acc = false →
    (∃ t, s.runSteps
        [.corePowerDown k, .corePowerUp true, .resetRelease, .edprsrRd acc] = some t ∧
      t.response.field? .spd = some true ∧
      ∃ u, exec (.edprsrRd acc) t = .next u ∧ u.response.field? .spd = some false) ∧
    (s.env.osdlrDlk = false →
      ∃ t, s.runSteps [.corePowerDown k, .corePowerUp false, .edprsrRd acc] = some t ∧
        t.response.field? .spd = some s.st.spd)

/-- R166, R183, R18: exactly when a debugger's write of EDPRCR can be behind an event, and that the event
is then taken. CORENPDRQ: the core powered, neither lock set, no Software Lock for the access; then
CORENPDRQ_WRITE writes the bit. CWRR: the same, none of R183's three ignore conditions, and an
implementation that does not ignore the request; then a Warm reset and its release are taken and show in
SR of the next read. EDPRCR is no state of the model (log 25). -/
def Obligations.EdprcrRequestsAreEnabledEvents : Prop :=
  ∀ (s : State) (acc acc' : AccessAttr) (d : InvasiveDebug) (b : Bool),
    (s.edprcrWriteEffective acc = true ↔
      s.env.power = .on ∧ s.doubleLocked = false ∧ s.env.oslk = false ∧
      s.softwareLocked acc = false) ∧
    (s.edprcrWriteEffective acc = true →
      exec (.corenpdrqWrite b) s = .next
        { s with env := { s.env with corenpdrq := b }, response := .nothing }) ∧
    (s.warmResetMayFollow acc d = true ↔
      s.edprcrWriteEffective acc = true ∧ s.cfg.warmResetExtent ≠ .ignored ∧
      ¬(d.enabled = false ∧ d.haveEl3 = false ∧ d.onlySecure = false) ∧
      ¬(d.secureEnabled = false ∧ d.haveEl3 = false ∧ d.onlySecure = true) ∧
      ¬(d.secureEnabled = false ∧ d.haveEl3 = true)) ∧
    (s.warmResetMayFollow acc d = true →
      ∃ t u w, exec .warmReset s = .next t ∧ t.env.inReset = true ∧ t.st.sr = true ∧
        exec .resetRelease t = .next u ∧ u.env.inReset = false ∧
        exec (.edprsrRd acc') u = .next w ∧
        w.response.field? .r = some false ∧ w.response.field? .sr = some true)
end

