-- ==== Sys2Proof/Laws/State.lean ====
section
/-! SUPPORT. One lemma per field per update of `State`, so that no later proof unfolds an update. -/

namespace Sys2Proof.Machine

variable (s : State)

@[simp] theorem State.withSt_cfg (st : Latches) : (s.withSt st).cfg = s.cfg := rfl
@[simp] theorem State.withSt_st (st : Latches) : (s.withSt st).st = st := rfl
@[simp] theorem State.withSt_env (st : Latches) : (s.withSt st).env = s.env := rfl
@[simp] theorem State.withSt_response (st : Latches) : (s.withSt st).response = s.response := rfl
@[simp] theorem State.withSt_offered (st : Latches) : (s.withSt st).offered = s.offered := rfl
@[simp] theorem State.withSt_draws (st : Latches) : (s.withSt st).draws = s.draws := rfl

@[simp] theorem State.withEnv_cfg (env : Env) : (s.withEnv env).cfg = s.cfg := rfl
@[simp] theorem State.withEnv_st (env : Env) : (s.withEnv env).st = s.st := rfl
@[simp] theorem State.withEnv_env (env : Env) : (s.withEnv env).env = env := rfl
@[simp] theorem State.withEnv_response (env : Env) : (s.withEnv env).response = s.response := rfl
@[simp] theorem State.withEnv_offered (env : Env) : (s.withEnv env).offered = s.offered := rfl
@[simp] theorem State.withEnv_draws (env : Env) : (s.withEnv env).draws = s.draws := rfl

@[simp] theorem State.respond_cfg (r : Response) : (s.respond r).cfg = s.cfg := rfl
@[simp] theorem State.respond_st (r : Response) : (s.respond r).st = s.st := rfl
@[simp] theorem State.respond_env (r : Response) : (s.respond r).env = s.env := rfl
@[simp] theorem State.respond_response (r : Response) : (s.respond r).response = r := rfl
@[simp] theorem State.respond_offered (r : Response) : (s.respond r).offered = s.offered := rfl
@[simp] theorem State.respond_draws (r : Response) : (s.respond r).draws = s.draws := rfl

@[simp] theorem State.tick_cfg : (s.tick).cfg = s.cfg := rfl
@[simp] theorem State.tick_st : (s.tick).st = s.st := rfl
@[simp] theorem State.tick_env : (s.tick).env = s.env := rfl
@[simp] theorem State.tick_response : (s.tick).response = s.response := rfl
@[simp] theorem State.tick_offered : (s.tick).offered = s.offered := rfl
@[simp] theorem State.tick_draws : (s.tick).draws = s.draws + 1 := rfl

@[simp] theorem State.withOffered_cfg (ls : List Label) : (s.withOffered ls).cfg = s.cfg := rfl
@[simp] theorem State.withOffered_st (ls : List Label) : (s.withOffered ls).st = s.st := rfl
@[simp] theorem State.withOffered_env (ls : List Label) : (s.withOffered ls).env = s.env := rfl
@[simp] theorem State.withOffered_response (ls : List Label) : (s.withOffered ls).response = s.response := rfl
@[simp] theorem State.withOffered_offered (ls : List Label) : (s.withOffered ls).offered = ls := rfl
@[simp] theorem State.withOffered_draws (ls : List Label) : (s.withOffered ls).draws = s.draws := rfl

@[simp] theorem State.eventDone_cfg : (s.eventDone).cfg = s.cfg := rfl
@[simp] theorem State.eventDone_st : (s.eventDone).st = s.st := rfl
@[simp] theorem State.eventDone_env : (s.eventDone).env = s.env := rfl
@[simp] theorem State.eventDone_response : (s.eventDone).response = .nothing := rfl
@[simp] theorem State.eventDone_offered : (s.eventDone).offered = s.offered := rfl
@[simp] theorem State.eventDone_draws : (s.eventDone).draws = s.draws := rfl

@[simp] theorem State.errorResponse_cfg : (s.errorResponse).cfg = s.cfg := rfl
@[simp] theorem State.errorResponse_st : (s.errorResponse).st = s.st := rfl
@[simp] theorem State.errorResponse_env : (s.errorResponse).env = s.env := rfl
@[simp] theorem State.errorResponse_response : (s.errorResponse).response = .error := rfl
@[simp] theorem State.errorResponse_offered : (s.errorResponse).offered = s.offered := rfl
@[simp] theorem State.errorResponse_draws : (s.errorResponse).draws = s.draws := rfl

/-! The predicates of 10_state.md read `cfg` and `env` alone. -/

@[simp] theorem State.withSt_corePowered (st : Latches) : (s.withSt st).corePowered = s.corePowered := rfl
@[simp] theorem State.withSt_doubleLocked (st : Latches) : (s.withSt st).doubleLocked = s.doubleLocked := rfl
@[simp] theorem State.withSt_osLocked (st : Latches) : (s.withSt st).osLocked = s.osLocked := rfl
@[simp] theorem State.withSt_registerInaccessible (st : Latches) : (s.withSt st).registerInaccessible = s.registerInaccessible := rfl
@[simp] theorem State.withSt_unknownA (st : Latches) : (s.withSt st).unknownA = s.unknownA := rfl
@[simp] theorem State.withSt_unknownB (st : Latches) : (s.withSt st).unknownB = s.unknownB := rfl
@[simp] theorem State.withSt_unknownC (st : Latches) : (s.withSt st).unknownC = s.unknownC := rfl
@[simp] theorem State.withSt_unknownOslar (st : Latches) : (s.withSt st).unknownOslar = s.unknownOslar := rfl
@[simp] theorem State.withSt_inDoubleLockedReset (st : Latches) : (s.withSt st).inDoubleLockedReset = s.inDoubleLockedReset := rfl
@[simp] theorem State.withSt_softwareRuns (st : Latches) : (s.withSt st).softwareRuns = s.softwareRuns := rfl
@[simp] theorem State.withSt_softwareLocked (st : Latches) (acc : AccessAttr) :
    (s.withSt st).softwareLocked acc = s.softwareLocked acc := rfl

@[simp] theorem State.respond_corePowered (r : Response) : (s.respond r).corePowered = s.corePowered := rfl
@[simp] theorem State.respond_doubleLocked (r : Response) : (s.respond r).doubleLocked = s.doubleLocked := rfl
@[simp] theorem State.respond_osLocked (r : Response) : (s.respond r).osLocked = s.osLocked := rfl
@[simp] theorem State.respond_registerInaccessible (r : Response) : (s.respond r).registerInaccessible = s.registerInaccessible := rfl
@[simp] theorem State.respond_unknownA (r : Response) : (s.respond r).unknownA = s.unknownA := rfl
@[simp] theorem State.respond_unknownB (r : Response) : (s.respond r).unknownB = s.unknownB := rfl
@[simp] theorem State.respond_unknownC (r : Response) : (s.respond r).unknownC = s.unknownC := rfl
@[simp] theorem State.respond_unknownOslar (r : Response) : (s.respond r).unknownOslar = s.unknownOslar := rfl
@[simp] theorem State.respond_inDoubleLockedReset (r : Response) : (s.respond r).inDoubleLockedReset = s.inDoubleLockedReset := rfl
@[simp] theorem State.respond_softwareRuns (r : Response) : (s.respond r).softwareRuns = s.softwareRuns := rfl
@[simp] theorem State.respond_softwareLocked (r : Response) (acc : AccessAttr) :
    (s.respond r).softwareLocked acc = s.softwareLocked acc := rfl

@[simp] theorem State.tick_corePowered : (s.tick).corePowered = s.corePowered := rfl
@[simp] theorem State.tick_doubleLocked : (s.tick).doubleLocked = s.doubleLocked := rfl
@[simp] theorem State.tick_osLocked : (s.tick).osLocked = s.osLocked := rfl
@[simp] theorem State.tick_registerInaccessible : (s.tick).registerInaccessible = s.registerInaccessible := rfl
@[simp] theorem State.tick_unknownA : (s.tick).unknownA = s.unknownA := rfl
@[simp] theorem State.tick_unknownB : (s.tick).unknownB = s.unknownB := rfl
@[simp] theorem State.tick_unknownC : (s.tick).unknownC = s.unknownC := rfl
@[simp] theorem State.tick_unknownOslar : (s.tick).unknownOslar = s.unknownOslar := rfl
@[simp] theorem State.tick_inDoubleLockedReset : (s.tick).inDoubleLockedReset = s.inDoubleLockedReset := rfl
@[simp] theorem State.tick_softwareRuns : (s.tick).softwareRuns = s.softwareRuns := rfl
@[simp] theorem State.tick_softwareLocked  (acc : AccessAttr) :
    (s.tick).softwareLocked acc = s.softwareLocked acc := rfl

@[simp] theorem State.withOffered_corePowered (ls : List Label) : (s.withOffered ls).corePowered = s.corePowered := rfl
@[simp] theorem State.withOffered_doubleLocked (ls : List Label) : (s.withOffered ls).doubleLocked = s.doubleLocked := rfl
@[simp] theorem State.withOffered_osLocked (ls : List Label) : (s.withOffered ls).osLocked = s.osLocked := rfl
@[simp] theorem State.withOffered_registerInaccessible (ls : List Label) : (s.withOffered ls).registerInaccessible = s.registerInaccessible := rfl
@[simp] theorem State.withOffered_unknownA (ls : List Label) : (s.withOffered ls).unknownA = s.unknownA := rfl
@[simp] theorem State.withOffered_unknownB (ls : List Label) : (s.withOffered ls).unknownB = s.unknownB := rfl
@[simp] theorem State.withOffered_unknownC (ls : List Label) : (s.withOffered ls).unknownC = s.unknownC := rfl
@[simp] theorem State.withOffered_unknownOslar (ls : List Label) : (s.withOffered ls).unknownOslar = s.unknownOslar := rfl
@[simp] theorem State.withOffered_inDoubleLockedReset (ls : List Label) : (s.withOffered ls).inDoubleLockedReset = s.inDoubleLockedReset := rfl
@[simp] theorem State.withOffered_softwareRuns (ls : List Label) : (s.withOffered ls).softwareRuns = s.softwareRuns := rfl
@[simp] theorem State.withOffered_softwareLocked (ls : List Label) (acc : AccessAttr) :
    (s.withOffered ls).softwareLocked acc = s.softwareLocked acc := rfl

@[simp] theorem State.eventDone_corePowered : (s.eventDone).corePowered = s.corePowered := rfl
@[simp] theorem State.eventDone_doubleLocked : (s.eventDone).doubleLocked = s.doubleLocked := rfl
@[simp] theorem State.eventDone_osLocked : (s.eventDone).osLocked = s.osLocked := rfl
@[simp] theorem State.eventDone_registerInaccessible : (s.eventDone).registerInaccessible = s.registerInaccessible := rfl
@[simp] theorem State.eventDone_unknownA : (s.eventDone).unknownA = s.unknownA := rfl
@[simp] theorem State.eventDone_unknownB : (s.eventDone).unknownB = s.unknownB := rfl
@[simp] theorem State.eventDone_unknownC : (s.eventDone).unknownC = s.unknownC := rfl
@[simp] theorem State.eventDone_unknownOslar : (s.eventDone).unknownOslar = s.unknownOslar := rfl
@[simp] theorem State.eventDone_inDoubleLockedReset : (s.eventDone).inDoubleLockedReset = s.inDoubleLockedReset := rfl
@[simp] theorem State.eventDone_softwareRuns : (s.eventDone).softwareRuns = s.softwareRuns := rfl
@[simp] theorem State.eventDone_softwareLocked  (acc : AccessAttr) :
    (s.eventDone).softwareLocked acc = s.softwareLocked acc := rfl

@[simp] theorem State.errorResponse_corePowered : (s.errorResponse).corePowered = s.corePowered := rfl
@[simp] theorem State.errorResponse_doubleLocked : (s.errorResponse).doubleLocked = s.doubleLocked := rfl
@[simp] theorem State.errorResponse_osLocked : (s.errorResponse).osLocked = s.osLocked := rfl
@[simp] theorem State.errorResponse_registerInaccessible : (s.errorResponse).registerInaccessible = s.registerInaccessible := rfl
@[simp] theorem State.errorResponse_unknownA : (s.errorResponse).unknownA = s.unknownA := rfl
@[simp] theorem State.errorResponse_unknownB : (s.errorResponse).unknownB = s.unknownB := rfl
@[simp] theorem State.errorResponse_unknownC : (s.errorResponse).unknownC = s.unknownC := rfl
@[simp] theorem State.errorResponse_unknownOslar : (s.errorResponse).unknownOslar = s.unknownOslar := rfl
@[simp] theorem State.errorResponse_inDoubleLockedReset : (s.errorResponse).inDoubleLockedReset = s.inDoubleLockedReset := rfl
@[simp] theorem State.errorResponse_softwareRuns : (s.errorResponse).softwareRuns = s.softwareRuns := rfl
@[simp] theorem State.errorResponse_softwareLocked  (acc : AccessAttr) :
    (s.errorResponse).softwareLocked acc = s.softwareLocked acc := rfl

/-! Putting a state's own part back changes nothing, and a second update of the same part wins. -/

@[simp] theorem State.withOffered_self : s.withOffered s.offered = s := rfl
@[simp] theorem State.withSt_self : s.withSt s.st = s := rfl
@[simp] theorem State.withEnv_self : s.withEnv s.env = s := rfl
@[simp] theorem State.respond_respond (r r' : Response) : (s.respond r).respond r' = s.respond r' := rfl
@[simp] theorem State.withFetchWord_offered (nbits w : Nat) :
    (s.withFetchWord nbits w).offered = tableLabel nbits w :: s.offered := rfl

end Sys2Proof.Machine
end

