-- ==== Sys2Proof/Laws/Value.lean ====
section
/-! SUPPORT. The bits of a read word (R108, R139). -/

namespace Sys2Proof.Machine

/-- A bit appended below leaves the other bits one place higher. -/
theorem getLsbD_append_ofBool_succ {w : Nat} (x : BitVec w) (b : Bool) (n : Nat) :
    BitVec.getLsbD (w := w + 1) (x ++ BitVec.ofBool b) (n + 1) = x.getLsbD n := by
  simp [BitVec.getLsbD_append]

/-- A bit appended below is bit 0. -/
theorem getLsbD_append_ofBool_zero {w : Nat} (x : BitVec w) (b : Bool) :
    BitVec.getLsbD (w := w + 1) (x ++ BitVec.ofBool b) 0 = b := by
  rw [BitVec.getLsbD_append]; simp

/-- Each field stands at its position (R100). -/
@[simp] theorem assembleWord_field (bit : Field → Bool) (f : Field) :
    (assembleWord bit).getLsbD (fieldPos f) = bit f := by
  cases f <;>
    simp [assembleWord, fieldPos, -BitVec.getLsbD_eq_getElem, BitVec.getLsbD_setWidth,
      getLsbD_append_ofBool_succ, getLsbD_append_ofBool_zero]

/-- Bits [31:14] are 0 (R123). -/
theorem assembleWord_high (bit : Field → Bool) (n : Nat) (h : 14 ≤ n) :
    (assembleWord bit).getLsbD n = false := by
  simp [assembleWord, BitVec.getLsbD_setWidth]
  intro
  exact BitVec.getLsbD_of_ge _ _ h

/-- As a number a read word lies in 0 to 16383 (R146). -/
theorem assembleWord_lt (bit : Field → Bool) : (assembleWord bit).toNat < 2 ^ 14 := by
  simp only [assembleWord, BitVec.toNat_setWidth]
  exact lt_of_le_of_lt (Nat.mod_le _ _) (BitVec.isLt _)

/-- The bit of a read in a field is what the field's rule says, its draw being this read's (R122). -/
@[simp] theorem State.readValue_field (s : State) (acc : AccessAttr) (f : Field) :
    (s.readValue acc).getLsbD (fieldPos f) =
      (s.fieldView acc f).resolve (Config.drawBit s.draws (.read f)) := by
  simp [State.readValue, State.fieldBit, State.draw]

@[simp] theorem resolve_known (b d : Bool) : (BitView.known b).resolve d = b := rfl
@[simp] theorem resolve_unknown (d : Bool) : BitView.unknown.resolve d = d := rfl
@[simp] theorem resolve_constrainedUnpredictable (d : Bool) :
    BitView.constrainedUnpredictable.resolve d = d := rfl
@[simp] theorem unknownIf_true (b : Bool) : unknownIf true b = .unknown := rfl
@[simp] theorem unknownIf_false (b : Bool) : unknownIf false b = .known b := rfl

end Sys2Proof.Machine
end

