-- ==== Sys2Proof/Laws/Ops.lean ====
section
/-! SUPPORT. For each shared operation, once, everything it can do: a proof cites these and unfolds nothing. -/

namespace Sys2Proof.Machine

/-! ### Events -/

/-- An event answers a next state exactly when its precondition holds (R170). -/
theorem takeEvent_next_iff (enabled : Bool) (e : GuardedEvent) (after t : State) :
    takeEvent enabled e after = .next t ↔ enabled = true ∧ t = after.eventDone := by
  cases enabled <;> simp [takeEvent, refuseEvent, eq_comm]

@[simp] theorem takeEvent_true (e : GuardedEvent) (after : State) :
    takeEvent true e after = .next after.eventDone := rfl

@[simp] theorem takeEvent_false (e : GuardedEvent) (after : State) :
    takeEvent false e after = .refused (.eventNotEnabled e) := rfl

/-! ### Accesses -/

/-- A failed access changes `st.sdad`, by R190, and nothing else but the response and the draws. -/
theorem failDebugAccess_eq (s : State) (acc : AccessAttr) (denied otherCause : Bool) :
    s.failDebugAccess acc denied otherCause =
      { s with st := { s.st with sdad := s.sdadAfterFailure acc denied otherCause },
               response := .error, draws := s.draws + 1 } := rfl

/-- A failed access to a breakpoint or watchpoint register (R165). -/
theorem breakWatchAccess_fails (s : State) (op : RegOp) (acc : AccessAttr)
    (h : s.breakWatchFails acc = true) :
    s.breakWatchAccess op acc =
      s.failDebugAccess acc (!s.debugAllowed acc) (s.doubleLocked || s.osLocked) := by
  simp [State.breakWatchAccess, h]

/-- A permitted write of a breakpoint or watchpoint register leaves nothing behind (R165). -/
theorem breakWatchAccess_write (s : State) (data : Word) (acc : AccessAttr)
    (h : s.breakWatchFails acc = false) :
    s.breakWatchAccess (.write data) acc = s.respond .ok := by
  simp [State.breakWatchAccess, h]

/-- A permitted read of a breakpoint or watchpoint register returns any word (R165). -/
theorem breakWatchAccess_read (s : State) (acc : AccessAttr) (h : s.breakWatchFails acc = false) :
    s.breakWatchAccess .read acc = (s.respond (.value (Config.drawWord s.draws))).tick := by
  simp [State.breakWatchAccess, h]

/-- The cases (d), (e), (b) or (c), and (a) of R190, in this order. -/
theorem sdadAfterFailure_eq (s : State) (acc : AccessAttr) (denied otherCause : Bool) :
    s.sdadAfterFailure acc denied otherCause =
      if s.corePowered = false ∨ denied = false then s.st.sdad
      else if otherCause = true ∨ (s.cfg.v84 = true ∧ acc.nonSecure = false) then
        s.st.sdad || Config.drawBit s.draws (.maybeSet .sdad)
      else true := by
  cases h1 : s.corePowered <;> cases h2 : s.cfg.v84 <;> cases h3 : acc.nonSecure <;>
    cases denied <;> cases otherCause <;>
    simp [State.sdadAfterFailure, stickyAfterFailure, State.draw, h1, h2, h3]

/-! ### Clearing after a read (R140 to R145) -/

theorem latchesAfterRead_softwareLocked (s : State) (acc : AccessAttr)
    (h : s.softwareLocked acc = true) : s.latchesAfterRead acc = s.st := by
  simp [State.latchesAfterRead, h]

theorem latchesAfterRead_unpowered (s : State) (acc : AccessAttr) (h : s.corePowered = false) :
    s.latchesAfterRead acc = s.st := by
  simp [State.latchesAfterRead, h]

theorem latchesAfterRead_unlocked (s : State) (acc : AccessAttr)
    (hs : s.softwareLocked acc = false) (hp : s.corePowered = true) (hd : s.doubleLocked = false) :
    s.latchesAfterRead acc = s.clearedLatches := by
  simp [State.latchesAfterRead, hs, hp, hd]

theorem latchesAfterRead_doubleLocked (s : State) (acc : AccessAttr) (b : Sticky)
    (hs : s.softwareLocked acc = false) (hp : s.corePowered = true) (hd : s.doubleLocked = true) :
    (s.latchesAfterRead acc).get b =
      if Config.drawBit s.draws (.skipClear b) = true then s.st.get b
      else s.clearedLatches.get b := by
  cases b <;> simp [State.latchesAfterRead, hs, hp, hd, Latches.get] <;> rfl

/-! ### Resets -/

/-- Everything a Warm reset does (R181). -/
theorem enterWarmReset_eq (s : State) :
    s.enterWarmReset =
      { s with
        st := { s.st with sr := true, sdr := Config.drawBit s.draws .sdrReset }
        env := s.envInReset
        draws := s.draws + 1 } := rfl

/-- Everything a Cold reset does (R180). -/
theorem enterColdReset_eq (s : State) :
    s.enterColdReset =
      { s with
        st := { stad := false, sdr := Config.drawBit s.draws .sdrReset, spmad := false,
                sdad := false, sr := true, spd := true }
        env := { s.envInReset with oslk := true, corenpdrq := Config.drawBit s.draws .corenpdrqCold }
        draws := s.draws + 1 } := rfl

@[simp] theorem envInReset_inReset (s : State) : s.envInReset.inReset = true := rfl
@[simp] theorem envInReset_halted (s : State) : s.envInReset.halted = false := rfl
@[simp] theorem envInReset_osdlrDlk (s : State) : s.envInReset.osdlrDlk = false := rfl
@[simp] theorem envInReset_power (s : State) : s.envInReset.power = s.env.power := rfl
@[simp] theorem envInReset_oslk (s : State) : s.envInReset.oslk = s.env.oslk := rfl
@[simp] theorem envInReset_slk (s : State) : s.envInReset.slk = s.env.slk := rfl
@[simp] theorem envInReset_corenpdrq (s : State) : s.envInReset.corenpdrq = s.env.corenpdrq := rfl
@[simp] theorem envInReset_tracePowered (s : State) :
    s.envInReset.tracePowered = s.env.tracePowered := rfl

/-! ### The predicates -/

theorem corePowered_iff (s : State) : s.corePowered = true ↔ s.env.power = .on := by
  cases h : s.env.power <;> simp [State.corePowered, h]

theorem corePowered_eq_false (s : State) : s.corePowered = false ↔ s.env.power ≠ .on := by
  cases h : s.env.power <;> simp [State.corePowered, h]

theorem canPowerDown_iff (s : State) (k : DownTo) :
    s.canPowerDown k = true ↔
      (k = .lowPower ∧ s.env.power = .on) ∨
      (k = .off ∧ s.env.power ≠ .off ∧ s.env.corenpdrq = false) := by
  cases k <;> cases h : s.env.power <;> simp [State.canPowerDown, h]

end Sys2Proof.Machine
end

