-- ==== Sys2Proof/Laws/PerInstr.lean ====
section
/-! SUPPORT. The per-instruction family EncodesIntoItsRow: the word of a well-formed label's encoding matches one row of the opcode table, its own (R104, R105, R106). -/

namespace Sys2Proof.Laws.EncodesIntoItsRow

/-- The encoding matches the row of its own mnemonic and no other. -/
def Statement (i : Instr) : Prop :=
  i.wellFormed = true → (encode i).matchingRows.map OpcodeRow.mnemonic = [i.mnemonic]

theorem edprsrRd (acc : AccessAttr) : Statement (.edprsrRd acc) := by
  intro _; rfl

theorem edprsrWr (data : Word) (acc : AccessAttr) : Statement (.edprsrWr data acc) := by
  intro _; rfl

theorem oslarWr (data : Word) (acc : AccessAttr) : Statement (.oslarWr data acc) := by
  intro _; rfl

theorem edlarWr (data : Word) (acc : AccessAttr) : Statement (.edlarWr data acc) := by
  intro _; rfl

theorem dbgbvrLo (n : Nat) (op : RegOp) (acc : AccessAttr) : Statement (.dbgbvrLo n op acc) := by
  intro h
  simp only [Instr.wellFormed, registerNumberOk, decide_eq_true_eq] at h
  cases op <;> interval_cases n <;> rfl

theorem dbgbvrHi (n : Nat) (op : RegOp) (acc : AccessAttr) : Statement (.dbgbvrHi n op acc) := by
  intro h
  simp only [Instr.wellFormed, registerNumberOk, decide_eq_true_eq] at h
  cases op <;> interval_cases n <;> rfl

theorem dbgbcr (n : Nat) (op : RegOp) (acc : AccessAttr) : Statement (.dbgbcr n op acc) := by
  intro h
  simp only [Instr.wellFormed, registerNumberOk, decide_eq_true_eq] at h
  cases op <;> interval_cases n <;> rfl

theorem dbgwvrLo (n : Nat) (op : RegOp) (acc : AccessAttr) : Statement (.dbgwvrLo n op acc) := by
  intro h
  simp only [Instr.wellFormed, registerNumberOk, decide_eq_true_eq] at h
  cases op <;> interval_cases n <;> rfl

theorem dbgwvrHi (n : Nat) (op : RegOp) (acc : AccessAttr) : Statement (.dbgwvrHi n op acc) := by
  intro h
  simp only [Instr.wellFormed, registerNumberOk, decide_eq_true_eq] at h
  cases op <;> interval_cases n <;> rfl

theorem dbgwcr (n : Nat) (op : RegOp) (acc : AccessAttr) : Statement (.dbgwcr n op acc) := by
  intro h
  simp only [Instr.wellFormed, registerNumberOk, decide_eq_true_eq] at h
  cases op <;> interval_cases n <;> rfl

theorem coldReset : Statement .coldReset := by
  intro _; rfl

theorem warmReset : Statement .warmReset := by
  intro _; rfl

theorem resetRelease : Statement .resetRelease := by
  intro _; rfl

theorem extDebugReset : Statement .extDebugReset := by
  intro _; rfl

theorem corePowerDown (k : DownTo) : Statement (.corePowerDown k) := by
  intro _; cases k <;> rfl

theorem corePowerUp (lost : Bool) : Statement (.corePowerUp lost) := by
  intro _; cases lost <;> rfl

theorem debugEntry : Statement .debugEntry := by
  intro _; rfl

theorem debugExit : Statement .debugExit := by
  intro _; rfl

theorem pmuAccessFail (ns : Bool) : Statement (.pmuAccessFail ns) := by
  intro _; cases ns <;> rfl

theorem traceAccessFail (ns : Bool) : Statement (.traceAccessFail ns) := by
  intro _; cases ns <;> rfl

theorem oslockSw (b : Bool) : Statement (.oslockSw b) := by
  intro _; cases b <;> rfl

theorem osdlrWrite (b : Bool) : Statement (.osdlrWrite b) := by
  intro _; cases b <;> rfl

theorem corenpdrqWrite (b : Bool) : Statement (.corenpdrqWrite b) := by
  intro _; cases b <;> rfl

theorem authChange (m : AuthBits) : Statement (.authChange m) := by
  intro _
  rcases m with ⟨ts, tn, ps, pn, ds, dn⟩
  cases ts <;> cases tn <;> cases ps <;> cases pn <;> cases ds <;> cases dn <;> rfl

theorem tracePower (on : Bool) : Statement (.tracePower on) := by
  intro _; cases on <;> rfl

end Sys2Proof.Laws.EncodesIntoItsRow
end

