-- ==== Sys2Proof/Laws/Steps.lean ====
section
/-! SUPPORT. What each label can do, once: the reads and the error responses as equations, and the case analysis of a whole step, from which every statement about all labels follows. -/

namespace Sys2Proof.Machine

/-! ### Accesses -/

/-- A permitted read of EDPRSR (R120): the word of the state before, and the stored bits after. -/
theorem exec_edprsrRd_permitted (acc : AccessAttr) (s : State)
    (h : s.cfg.haveDopd = false ∨ s.env.power = .on) :
    exec (.edprsrRd acc) s =
      .next { s with st := s.latchesAfterRead acc, response := .value (s.readValue acc),
                     draws := s.draws + 1 } := by
  have hr : s.registerInaccessible = false := by
    rcases h with h | h
    · simp [State.registerInaccessible, h]
    · simp [State.registerInaccessible, (corePowered_iff s).2 h]
  simp [exec, execEdprsrRd, hr]; rfl

/-- A read of EDPRSR that fails (R121). -/
theorem exec_edprsrRd_fails (acc : AccessAttr) (s : State) (hd : s.cfg.haveDopd = true)
    (hp : s.env.power ≠ .on) : exec (.edprsrRd acc) s = .next s.errorResponse := by
  simp [exec, execEdprsrRd, State.registerInaccessible, hd, (corePowered_eq_false s).2 hp]

/-- The field of a word that a read returned (R139). -/
theorem field?_readValue (s : State) (acc : AccessAttr) (f : Field) :
    (Response.value (s.readValue acc)).field? f =
      some ((s.fieldView acc f).resolve (Config.drawBit s.draws (.read f))) := by
  simp [Response.field?, Response.word?]

/-- With the core powered and the Double Lock unlocked SPD is believed to be the stored bit. -/
theorem spdFact_unlocked (s : State) (hp : s.env.power = .on) (hd : s.doubleLocked = false) :
    s.spdFact = s.st.spd := by
  simp [State.spdFact, hp, hd]

/-- Under the Double Lock SPD is believed to be 0 (R137). -/
theorem spdFact_doubleLocked (s : State) (hp : s.env.power = .on) (hd : s.doubleLocked = true) :
    s.spdFact = false := by
  simp [State.spdFact, hp, hd]

/-- While the core is not powered SPD is the implementation's value (R137). -/
theorem spdFact_unpowered (s : State) (hp : s.env.power ≠ .on) :
    s.spdFact = if s.env.power = .off then s.cfg.spdPowerdown else s.cfg.spdLowPower := by
  cases h : s.env.power <;> simp_all [State.spdFact]

/-- ARMv8.2-Debug forces OSLAR_EL1 writes to fail without permission (R15). -/
theorem oslarErrOnEdad_of_v82 (c : Config) (h : c.v82 = true) : c.oslarErrOnEdad = true := by
  cases hv : c.debugVer <;> simp_all [Config.v82, Config.oslarErrOnEdad]

/-- When the permission makes an OSLAR_EL1 write fail (R163). -/
theorem oslarDenied_eq (s : State) (acc : AccessAttr) :
    s.oslarDenied acc = (!s.env.allowDebug.allows acc && s.cfg.oslarErrOnEdad) := by
  cases h : s.cfg.v82
  · simp [State.oslarDenied, h, State.debugAllowed]
  · simp [State.oslarDenied, h, State.debugAllowed, oslarErrOnEdad_of_v82 _ h]

/-- A failed debug register access sets SDAD only with the core powered, and only if denied (R190). -/
theorem sdadAfterFailure_sets (s : State) (acc : AccessAttr) (denied otherCause : Bool)
    (h0 : s.st.sdad = false) (h1 : s.sdadAfterFailure acc denied otherCause = true) :
    s.corePowered = true ∧ denied = true := by
  rw [sdadAfterFailure_eq] at h1
  split_ifs at h1 with h <;> simp_all

/-- A failed debug register access never clears SDAD (R190). -/
theorem sdadAfterFailure_keeps (s : State) (acc : AccessAttr) (denied otherCause : Bool)
    (h : s.st.sdad = true) : s.sdadAfterFailure acc denied otherCause = true := by
  rw [sdadAfterFailure_eq]
  split_ifs <;> simp [h]

/-- A failed PMU access sets SPMAD only with the core powered (R191). -/
theorem spmadAfterFailure_sets (s : State) (acc : AccessAttr) (h0 : s.st.spmad = false)
    (h1 : s.spmadAfterFailure acc = true) : s.corePowered = true := by
  cases hp : s.corePowered <;> simp_all [State.spmadAfterFailure]

/-- A failed PMU access never clears SPMAD (R191). -/
theorem spmadAfterFailure_keeps (s : State) (acc : AccessAttr) (h : s.st.spmad = true) :
    s.spmadAfterFailure acc = true := by
  simp [State.spmadAfterFailure, stickyAfterFailure, h]

/-- A failed trace access sets STAD only with TRBE, the core powered, and Non-secure (R192). -/
theorem stadAfterFailure_sets (s : State) (acc : AccessAttr) (h0 : s.st.stad = false)
    (h1 : s.stadAfterFailure acc = true) :
    s.cfg.trbe = true ∧ s.corePowered = true ∧ acc.nonSecure = true := by
  cases ht : s.cfg.trbe <;> cases hp : s.corePowered <;> cases hn : acc.nonSecure <;>
    simp_all [State.stadAfterFailure]

/-- A failed trace access never clears STAD (R192). -/
theorem stadAfterFailure_keeps (s : State) (acc : AccessAttr) (h : s.st.stad = true) :
    s.stadAfterFailure acc = true := by
  simp [State.stadAfterFailure, stickyAfterFailure, h]

/-- What an access to a breakpoint or watchpoint register can do, read or write (R165). -/
theorem breakWatchAccess_cases (s : State) (op : RegOp) (acc : AccessAttr) :
    (s.breakWatchFails acc = true ∧ s.breakWatchAccess op acc =
      s.failDebugAccess acc (!s.debugAllowed acc) (s.doubleLocked || s.osLocked)) ∨
    (s.breakWatchFails acc = false ∧ (∃ data, op = .write data) ∧
      s.breakWatchAccess op acc = s.respond .ok) ∨
    (s.breakWatchFails acc = false ∧ op = .read ∧
      s.breakWatchAccess op acc = (s.respond (.value (Config.drawWord s.draws))).tick) := by
  cases h : s.breakWatchFails acc
  · cases op with
    | read => exact .inr (.inr ⟨rfl, rfl, breakWatchAccess_read s acc h⟩)
    | write data => exact .inr (.inl ⟨rfl, ⟨data, rfl⟩, breakWatchAccess_write s data acc h⟩)
  · exact .inl ⟨rfl, breakWatchAccess_fails s op acc h⟩

/-! ### A whole step -/

/-- EVERYTHING `exec` CAN DO. To prove a property of every label taken in a state, prove it of each
outcome below; the six breakpoint and watchpoint rows share three outcomes, told apart from the other
labels by `debugRegisterAccess`. -/
theorem exec_cases {P : Instr → State → Prop} {s : State}
    (readFails : ∀ acc, s.cfg.haveDopd = true → s.env.power ≠ .on → P (.edprsrRd acc) s.errorResponse)
    (read : ∀ acc, s.cfg.haveDopd = false ∨ s.env.power = .on →
      P (.edprsrRd acc) ((s.withSt (s.latchesAfterRead acc)).respond (.value (s.readValue acc))).tick)
    (writeFails : ∀ data acc, s.registerInaccessible = true → P (.edprsrWr data acc) s.errorResponse)
    (write : ∀ data acc, s.registerInaccessible = false → P (.edprsrWr data acc) (s.respond .ok))
    (oslarFails : ∀ data acc,
      (!s.corePowered || s.doubleLocked || s.oslarDenied acc) = true →
      P (.oslarWr data acc) (s.failDebugAccess acc (s.oslarDenied acc) s.doubleLocked))
    (oslarIgnored : ∀ data acc,
      (!s.corePowered || s.doubleLocked || s.oslarDenied acc) = false →
      s.softwareLocked acc = true → P (.oslarWr data acc) (s.respond .ok))
    (oslar : ∀ data acc, (!s.corePowered || s.doubleLocked || s.oslarDenied acc) = false →
      s.softwareLocked acc = false →
      P (.oslarWr data acc) ((s.withEnv { s.env with oslk := oslarDataBit data }).respond .ok))
    (edlarFails : ∀ data acc, s.registerInaccessible = true → P (.edlarWr data acc) s.errorResponse)
    (edlarIgnored : ∀ data acc, s.registerInaccessible = false → P (.edlarWr data acc) (s.respond .ok))
    (edlar : ∀ data acc, s.registerInaccessible = false → s.cfg.haveSoftwareLock = true →
      acc.memoryMapped = true →
      P (.edlarWr data acc) ((s.withEnv { s.env with slk := edlarLock data }).respond .ok))
    (breakWatch : ∀ i n op acc, i ∈ [Instr.dbgbvrLo n op acc, .dbgbvrHi n op acc, .dbgbcr n op acc,
      .dbgwvrLo n op acc, .dbgwvrHi n op acc, .dbgwcr n op acc] → P i (s.breakWatchAccess op acc))
    (coldReset : s.corePowered = true → P .coldReset s.enterColdReset.eventDone)
    (warmReset : s.corePowered = true → P .warmReset s.enterWarmReset.eventDone)
    (resetRelease : s.corePowered = true → s.env.inReset = true →
      P .resetRelease (s.withEnv { s.env with inReset := false }).eventDone)
    (extDebugReset : P .extDebugReset
      (s.withEnv { s.env with slk := s.env.slk || s.cfg.haveSoftwareLock }).eventDone)
    (corePowerDown : ∀ k, s.canPowerDown k = true →
      P (.corePowerDown k) (s.withEnv { s.env with power := powerAfterDown k }).eventDone)
    (powerUpLost : s.corePowered = false → P (.corePowerUp true) s.powerUpLost.eventDone)
    (powerUpRestored : s.corePowered = false → P (.corePowerUp false) s.powerUpRestored.eventDone)
    (debugEntry : s.softwareRuns = true → s.env.halted = false →
      P .debugEntry (s.withEnv { s.env with halted := true }).eventDone)
    (debugExit : s.corePowered = true → s.env.halted = true →
      P .debugExit
        ((s.withEnv { s.env with halted := false }).withSt { s.st with sdr := true }).eventDone)
    (pmuAccessFail : ∀ ns, s.pmuAccessFails (s.failingAccess ns) = true →
      P (.pmuAccessFail ns)
        (s.withSt { s.st with spmad := s.spmadAfterFailure (s.failingAccess ns) }).tick.eventDone)
    (traceAccessFail : ∀ ns, s.traceAccessFails (s.failingAccess ns) = true →
      P (.traceAccessFail ns)
        (s.withSt { s.st with stad := s.stadAfterFailure (s.failingAccess ns) }).tick.eventDone)
    (oslockSw : ∀ b, s.softwareRuns = true →
      P (.oslockSw b) (s.withEnv { s.env with oslk := b }).eventDone)
    (osdlrWrite : ∀ b, s.softwareRuns = true → s.cfg.doubleLock = true →
      P (.osdlrWrite b) (s.withEnv { s.env with osdlrDlk := b }).eventDone)
    (osdlrIgnored : ∀ b, s.softwareRuns = true → s.cfg.doubleLock = false →
      P (.osdlrWrite b) s.eventDone)
    (corenpdrqWrite : ∀ b, s.corePowered = true →
      P (.corenpdrqWrite b) (s.withEnv { s.env with corenpdrq := b }).eventDone)
    (authChange : ∀ m, P (.authChange m)
      (s.withEnv { s.env with allowDebug := .ofBits m.dbgS m.dbgNs,
                              allowPmu := .ofBits m.pmuS m.pmuNs,
                              allowTrace := .ofBits m.traceS m.traceNs }).eventDone)
    (tracePower : ∀ on, P (.tracePower on) (s.withEnv { s.env with tracePowered := on }).eventDone)
    (i : Instr) (t : State) (h : exec i s = .next t) : P i t := by
  cases i with
  | edprsrRd acc =>
    by_cases hc : s.cfg.haveDopd = false ∨ s.env.power = .on
    · rw [exec_edprsrRd_permitted acc s hc] at h; cases h; exact read acc hc
    · simp only [not_or, Bool.not_eq_false] at hc
      rw [exec_edprsrRd_fails acc s hc.1 hc.2] at h; cases h; exact readFails acc hc.1 hc.2
  | edprsrWr data acc =>
    simp only [exec, execEdprsrWr] at h
    split_ifs at h with hr <;> cases h
    · exact writeFails data acc hr
    · exact write data acc (by simpa using hr)
  | oslarWr data acc =>
    simp only [exec, execOslarWr] at h
    split_ifs at h with hf hs <;> cases h
    · exact oslarFails data acc hf
    · exact oslarIgnored data acc (by simpa using hf) hs
    · exact oslar data acc (by simpa using hf) (by simpa using hs)
  | edlarWr data acc =>
    simp only [exec, execEdlarWr] at h
    split_ifs at h with hr hl hm <;> cases h
    · exact edlarFails data acc hr
    · exact edlarIgnored data acc (by simpa using hr)
    · exact edlarIgnored data acc (by simpa using hr)
    · exact edlar data acc (by simpa using hr) (by simpa using hl) (by simpa using hm)
  | dbgbvrLo n op acc => cases h; exact breakWatch _ n op acc (by simp)
  | dbgbvrHi n op acc => cases h; exact breakWatch _ n op acc (by simp)
  | dbgbcr n op acc => cases h; exact breakWatch _ n op acc (by simp)
  | dbgwvrLo n op acc => cases h; exact breakWatch _ n op acc (by simp)
  | dbgwvrHi n op acc => cases h; exact breakWatch _ n op acc (by simp)
  | dbgwcr n op acc => cases h; exact breakWatch _ n op acc (by simp)
  | coldReset => obtain ⟨hp, rfl⟩ := (takeEvent_next_iff _ _ _ _).1 h; exact coldReset hp
  | warmReset => obtain ⟨hp, rfl⟩ := (takeEvent_next_iff _ _ _ _).1 h; exact warmReset hp
  | resetRelease =>
    obtain ⟨hp, rfl⟩ := (takeEvent_next_iff _ _ _ _).1 h
    simp only [Bool.and_eq_true] at hp
    exact resetRelease hp.1 hp.2
  | extDebugReset =>
    have hd : s.cfg.haveSoftwareLock = true → s.cfg.haveDopd = false := by
      cases hq : s.cfg.debugPower <;> simp [Config.haveSoftwareLock, Config.haveDopd, hq]
    simp only [exec, execExtDebugReset] at h
    cases hl : s.cfg.haveSoftwareLock with
    | false =>
      rw [hl, Bool.or_false] at extDebugReset
      simp only [hl, Bool.false_and, Bool.false_eq_true, if_false] at h
      cases h
      exact extDebugReset
    | true =>
      simp only [hl, hd hl, Bool.not_false, Bool.and_true, if_true] at h
      cases h
      simpa [hl] using extDebugReset
  | corePowerDown k => obtain ⟨hp, rfl⟩ := (takeEvent_next_iff _ _ _ _).1 h; exact corePowerDown k hp
  | corePowerUp lost =>
    obtain ⟨hp, rfl⟩ := (takeEvent_next_iff _ _ _ _).1 h
    simp only [Bool.not_eq_true'] at hp
    cases lost
    · exact powerUpRestored hp
    · exact powerUpLost hp
  | debugEntry =>
    obtain ⟨hp, rfl⟩ := (takeEvent_next_iff _ _ _ _).1 h
    simp only [Bool.and_eq_true, Bool.not_eq_true'] at hp
    exact debugEntry hp.1 hp.2
  | debugExit =>
    obtain ⟨hp, rfl⟩ := (takeEvent_next_iff _ _ _ _).1 h
    simp only [Bool.and_eq_true] at hp
    exact debugExit hp.1 hp.2
  | pmuAccessFail ns =>
    obtain ⟨hp, rfl⟩ := (takeEvent_next_iff _ _ _ _).1 h; exact pmuAccessFail ns hp
  | traceAccessFail ns =>
    obtain ⟨hp, rfl⟩ := (takeEvent_next_iff _ _ _ _).1 h; exact traceAccessFail ns hp
  | oslockSw b => obtain ⟨hp, rfl⟩ := (takeEvent_next_iff _ _ _ _).1 h; exact oslockSw b hp
  | osdlrWrite b =>
    obtain ⟨hp, rfl⟩ := (takeEvent_next_iff _ _ _ _).1 h
    cases hd : s.cfg.doubleLock
    · simpa [hd] using osdlrIgnored b hp hd
    · simpa [hd] using osdlrWrite b hp hd
  | corenpdrqWrite b =>
    obtain ⟨hp, rfl⟩ := (takeEvent_next_iff _ _ _ _).1 h; exact corenpdrqWrite b hp
  | authChange m => cases h; exact authChange m
  | tracePower on => cases h; exact tracePower on

/-! ### Sequences -/

@[simp] theorem runSteps_nil (s : State) : s.runSteps [] = some s := rfl

/-- The first step of a sequence. -/
theorem runSteps_cons (i : Instr) (rest : List Instr) (s t : State) (h : exec i s = .next t) :
    s.runSteps (i :: rest) = t.runSteps rest := by
  rw [State.runSteps, h]

/-- A sequence that was taken took its first step. -/
theorem runSteps_cons_some (i : Instr) (rest : List Instr) (s u : State)
    (h : s.runSteps (i :: rest) = some u) :
    ∃ t, exec i s = .next t ∧ t.runSteps rest = some u := by
  rw [State.runSteps] at h
  cases hi : exec i s with
  | next t => rw [hi] at h; exact ⟨t, rfl, h⟩
  | fault e => rw [hi] at h; cases h
  | refused e => rw [hi] at h; cases h

/-- A step that was taken took the oldest offered label, decoded. -/
theorem step_next (s t : State) (h : step s = .next t) :
    ∃ l rest i, s.offered = l :: rest ∧ decode l = .ok i ∧ exec i (s.withOffered rest) = .next t := by
  unfold step at h
  split at h
  · cases h
  · rename_i l rest ho
    split at h
    · rename_i i hi; exact ⟨l, rest, i, ho, hi, h⟩
    · cases h

end Sys2Proof.Machine
end

