-- ==== Sys2Proof/Tests/Slice0.lean ====
section
/-! SUPPORT. The model's own tests: the well-formedness smoke, one written-out word for every label, single steps whose expected results are the spec's examples, and for every statement with hypotheses a state that meets them. -/

namespace Sys2Proof.Tests

open Sys2Proof.Machine

/-! ### Small states -/

/-- An Armv8.0 implementation with no option but `OSLAR_ERR_ON_EDAD`. -/
def plain : Config :=
  { debugVer := .v8_0 true, debugPower := .split false, doubleLock := false, trbe := false,
    dlkPuChoice := .a, spdLowPower := false, spdPowerdown := true, debugBase := 0,
    warmResetExtent := .thisPe }

/-- All four answers of an oracle alike. -/
def allow (b : Bool) : Permission := { dpS := b, dpNs := b, mmS := b, mmNs := b }

/-- Powered, out of reset, nothing locked, everything allowed, no stored bit set: the RUN state of
95_test_vectors.md with its stored bits 0. -/
def running (c : Config) : State :=
  { cfg := c
    st := { stad := false, sdr := false, spmad := false, sdad := false, sr := false, spd := false }
    env := { power := .on, inReset := false, resetEnteredDlk := false, halted := false,
             osdlrDlk := false, corenpdrq := false, oslk := false, slk := false,
             allowDebug := allow true, allowPmu := allow true, allowTrace := allow true,
             tracePowered := true }
    response := .nothing
    offered := []
    draws := 7 }

/-- Every stored bit set (STAD apart, which needs TRBE). -/
def sticky : Latches :=
  { stad := false, sdr := true, spmad := true, sdad := true, sr := true, spd := true }

def withInput (s : State) (f : Env → Env) : State := s.withEnv (f s.env)

/-- The same, double locked. -/
def doubleLockedState (c : Config) : State :=
  withInput (running { c with doubleLock := true }) fun e => { e with osdlrDlk := true }

/-- The same, with the core switched off. -/
def unpowered (c : Config) : State := withInput (running c) fun e => { e with power := .off }

/-- The same, held in a Warm reset. -/
def held (c : Config) : State :=
  withInput ((running c).withSt { sticky with sdr := false }) fun e => { e with inReset := true }

/-- The same, with no permission for debug register accesses. -/
def denied (c : Config) : State := withInput (running c) fun e => { e with allowDebug := allow false }

def debugPort : AccessAttr := { memoryMapped := false, nonSecure := false }
def memoryMappedS : AccessAttr := { memoryMapped := true, nonSecure := false }
def nonSecurePort : AccessAttr := { memoryMapped := false, nonSecure := true }

/-- Does this outcome carry a next state of which `p` holds? -/
def takes (o : Host.Outcome State Fault Refusal) (p : State → Bool) : Bool :=
  match o with
  | .next t => p t
  | .fault _ => false
  | .refused _ => false

/-- Is this outcome the refusal of an event whose precondition is false? -/
def refusedEvent (o : Host.Outcome State Fault Refusal) (e : GuardedEvent) : Bool :=
  match o with
  | .refused r => r == .eventNotEnabled e
  | .next _ => false
  | .fault _ => false

/-! ### Well-formedness: a register number of 16 is refused, 15 is not (R104) -/

theorem test_wellFormed_refuses_dbgbvrLo_16 : (Instr.dbgbvrLo 16 .read debugPort).wellFormed = false := by decide
theorem test_wellFormed_refuses_dbgbvrHi_16 : (Instr.dbgbvrHi 16 .read debugPort).wellFormed = false := by decide
theorem test_wellFormed_refuses_dbgbcr_16 : (Instr.dbgbcr 16 .read debugPort).wellFormed = false := by decide
theorem test_wellFormed_refuses_dbgwvrLo_16 : (Instr.dbgwvrLo 16 .read debugPort).wellFormed = false := by decide
theorem test_wellFormed_refuses_dbgwvrHi_16 : (Instr.dbgwvrHi 16 .read debugPort).wellFormed = false := by decide
theorem test_wellFormed_refuses_dbgwcr_16 : (Instr.dbgwcr 16 .read debugPort).wellFormed = false := by decide
theorem test_wellFormed_admits_15 : (Instr.dbgwcr 15 .read debugPort).wellFormed = true := by decide

/-! ### Decoding: words written out bit by bit from R104 and R105 -/

theorem test_decode_edprsrRd :
    decode (.xdi .word 0b0001100010100#13 9 debugPort) =
      .ok (.edprsrRd debugPort) := rfl
theorem test_decode_edprsrWr :
    decode (.xdi .word 0b1001100010100#13 9 debugPort) =
      .ok (.edprsrWr 9 debugPort) := rfl
theorem test_decode_oslarWr :
    decode (.xdi .word 0b1001100000000#13 1 debugPort) =
      .ok (.oslarWr 1 debugPort) := rfl
theorem test_decode_edlarWr :
    decode (.xdi .word 0b1111110110000#13 0xC5ACCE55 memoryMappedS) =
      .ok (.edlarWr 0xC5ACCE55 memoryMappedS) := rfl
theorem test_decode_dbgbvrLo :
    decode (.xdi .word 0b0010011110000#13 0 debugPort) =
      .ok (.dbgbvrLo 15 .read debugPort) := rfl
theorem test_decode_dbgbvrHi :
    decode (.xdi .word 0b1010000010100#13 5 debugPort) =
      .ok (.dbgbvrHi 1 (.write 5) debugPort) := rfl
theorem test_decode_dbgbcr :
    decode (.xdi .word 0b0010000001000#13 5 debugPort) =
      .ok (.dbgbcr 0 .read debugPort) := rfl
theorem test_decode_dbgwvrLo :
    decode (.xdi .word 0b1100000100000#13 5 debugPort) =
      .ok (.dbgwvrLo 2 (.write 5) debugPort) := rfl
theorem test_decode_dbgwvrHi :
    decode (.xdi .word 0b0100010000100#13 5 debugPort) =
      .ok (.dbgwvrHi 8 .read debugPort) := rfl
theorem test_decode_dbgwcr :
    decode (.xdi .word 0b1100000111000#13 0 debugPort) =
      .ok (.dbgwcr 3 (.write 0) debugPort) := rfl
theorem test_decode_coldReset : decode (.evt 0b0000000100000000#16) = .ok .coldReset := rfl
theorem test_decode_warmReset : decode (.evt 0b0000001000000000#16) = .ok .warmReset := rfl
theorem test_decode_resetRelease : decode (.evt 0b0000001100000000#16) = .ok .resetRelease := rfl
theorem test_decode_extDebugReset : decode (.evt 0b0000010000000000#16) = .ok .extDebugReset := rfl
theorem test_decode_corePowerDown :
    decode (.evt 0b0000010100000001#16) =
      .ok (.corePowerDown .off) := rfl
theorem test_decode_corePowerUp :
    decode (.evt 0b0000011000000001#16) =
      .ok (.corePowerUp true) := rfl
theorem test_decode_debugEntry : decode (.evt 0b0000011100000000#16) = .ok .debugEntry := rfl
theorem test_decode_debugExit : decode (.evt 0b0000100000000000#16) = .ok .debugExit := rfl
theorem test_decode_pmuAccessFail :
    decode (.evt 0b0000101000000001#16) =
      .ok (.pmuAccessFail true) := rfl
theorem test_decode_traceAccessFail :
    decode (.evt 0b0000101100000000#16) =
      .ok (.traceAccessFail false) := rfl
theorem test_decode_oslockSw : decode (.evt 0b0000110000000001#16) = .ok (.oslockSw true) := rfl
theorem test_decode_osdlrWrite : decode (.evt 0b0000110100000001#16) = .ok (.osdlrWrite true) := rfl
theorem test_decode_corenpdrqWrite :
    decode (.evt 0b0000111000000001#16) =
      .ok (.corenpdrqWrite true) := rfl
theorem test_decode_authChange :
    decode (.evt 0b0000111100100001#16) =
      .ok (.authChange { traceS := true, traceNs := false, pmuS := false, pmuNs := false, dbgS := false, dbgNs := true }) := rfl
theorem test_decode_tracePower : decode (.evt 0b0001000000000001#16) = .ok (.tracePower true) := rfl

/-- R74: another size, a misaligned offset, an unlisted offset, a listed register without a behaviour, a
read of a write-only register. R105: an unassigned code, a non-zero unused `ARG` bit. -/
theorem test_decode_refusals :
    decode (.xdi .byte 0x0314#13 0 debugPort) = .error .accessSize ∧
    decode (.xdi .word 0x0316#13 0 debugPort) = .error .misalignedOffset ∧
    decode (.xdi .word 0x0318#13 0 debugPort) = .error .unlistedOffset ∧
    decode (.xdi .word 0x1310#13 0 debugPort) = .error .registerWithoutBehaviour ∧
    decode (.xdi .word 0x0300#13 0 debugPort) = .error .directionNotDescribed ∧
    decode (.evt 0x0900#16) = .error .unassignedEventCode ∧
    decode (.evt 0x0101#16) = .error .reservedArgBits ∧
    decode (.evt 0x0F40#16) = .error .reservedArgBits := ⟨rfl, rfl, rfl, rfl, rfl, rfl, rfl, rfl⟩

/-- The numbers of the opcode table (log 9): an access, an event, and the two words of both formats. -/
theorem test_decodeTableWord :
    decodeTableWord 16 0x0314 = some (.edprsrRd debugPort) ∧
    decodeTableWord 16 0x1FB0 = some (.edlarWr 0 debugPort) ∧
    decodeTableWord 16 0x1001 = some (.tracePower true) ∧
    decodeTableWord 16 0x0400 = some .extDebugReset ∧
    decodeTableWord 13 0x0400 = some (.dbgbvrLo 0 .read debugPort) ∧
    decodeTableWord 16 0x0900 = none := ⟨rfl, rfl, rfl, rfl, rfl, rfl⟩

/-- From the initial state a label offered by `withFetchWord` is the one that runs. -/
theorem test_withFetchWord_runs :
    step (State.reset.withFetchWord 16 0x0300) = exec .resetRelease State.reset := rfl

/-! ### Single steps: the spec's examples -/

/-- R120: all sticky bits, running, Armv8.0: 0x00000D0B, and the next read 0x00000001. -/
theorem test_step_read_then_read :
    (takes (exec (.edprsrRd debugPort) ((running plain).withSt sticky)) fun t =>
      t.response == .value 0x00000D0B#32 &&
      takes (exec (.edprsrRd debugPort) t) fun u => u.response == .value 0x00000001#32) = true := by decide

/-- R121: ARMv8.3-DoPD, core off: ERROR. -/
theorem test_step_read_unpowered_dopd :
    (takes (exec (.edprsrRd debugPort) (unpowered { plain with debugPower := .dopd })) fun t => t.response == .error) = true := by decide

/-- R160: a write of EDPRSR clears nothing. -/
theorem test_step_write_edprsr :
    (takes (exec (.edprsrWr 0 debugPort) ((running plain).withSt sticky)) fun t => t.st == sticky && t.response == .ok) = true := by decide

/-- R163: ARMv8.2, no permission: ERROR, the lock unchanged, SDAD set. -/
theorem test_step_write_oslar_denied :
    (takes (exec (.oslarWr 1 debugPort) (denied { plain with debugVer := .v8_2 })) fun t =>
      t.response == .error && t.env.oslk == false && t.st.sdad) = true := by decide

/-- R163: bits [31:1] of the data are ignored. -/
theorem test_step_write_oslar_bit_zero :
    (takes (exec (.oslarWr 0xFFFFFFFE debugPort) (withInput (running plain) fun e => { e with oslk := true })) fun t =>
      t.env.oslk == false) = true := by decide

/-- R164: the key clears the Software Lock. -/
theorem test_step_write_edlar_key :
    (takes (exec (.edlarWr 0xC5ACCE55 memoryMappedS)
      (withInput (running { plain with debugPower := .split true }) fun e => { e with slk := true })) fun t =>
      t.env.slk == false) = true := by decide

/-- R164: any other value sets it. -/
theorem test_step_write_edlar_other :
    (takes (exec (.edlarWr 0 memoryMappedS) (running { plain with debugPower := .split true })) fun t => t.env.slk) = true := by decide

/-- R165: a read that fails for want of permission sets SDAD. -/
theorem test_step_dbgbcr_read_denied :
    (takes (exec (.dbgbcr 0 .read debugPort) (denied plain)) fun t => t.response == .error && t.st.sdad) = true := by decide

/-- R190: `WR DBGWCR3, #0 -> ERROR` sets SDAD. -/
theorem test_step_dbgwcr_write_denied :
    (takes (exec (.dbgwcr 3 (.write 0) debugPort) (denied plain)) fun t => t.response == .error && t.st.sdad) = true := by decide

/-- R190 (e): a failure for the OS Lock alone leaves SDAD. -/
theorem test_step_dbgbvrLo_os_locked :
    (takes (exec (.dbgbvrLo 0 .read debugPort) (withInput (running plain) fun e => { e with oslk := true })) fun t =>
      t.response == .error && !t.st.sdad) = true := by decide

/-- R190 (d): an unpowered core never sets SDAD. -/
theorem test_step_dbgbvrHi_unpowered :
    (takes (exec (.dbgbvrHi 0 .read debugPort) (withInput (denied plain) fun e => { e with power := .off })) fun t =>
      t.response == .error && !t.st.sdad) = true := by decide

/-- R165: a permitted write under the Software Lock is no error. -/
theorem test_step_dbgwvrLo_software_locked :
    (takes (exec (.dbgwvrLo 0 (.write 1) memoryMappedS)
      (withInput (running { plain with debugPower := .split true }) fun e => { e with slk := true })) fun t =>
      t.response == .ok) = true := by decide

/-- R165: a failure under the Double Lock with permission leaves SDAD. -/
theorem test_step_dbgwvrHi_double_locked :
    (takes (exec (.dbgwvrHi 0 .read debugPort) (doubleLockedState plain)) fun t => t.response == .error && !t.st.sdad) = true := by decide

/-- R180: a Cold reset sets SR, SPD and the OS Lock, and clears SDAD. -/
theorem test_step_cold_reset :
    (takes (exec .coldReset ((running plain).withSt sticky)) fun t =>
      t.st.sr && t.st.spd && !t.st.sdad && t.env.oslk && t.env.inReset) = true := by decide

/-- R181: a Warm reset leaves SPD, SDAD and the OS Lock. -/
theorem test_step_warm_reset :
    (takes (exec .warmReset (withInput ((running plain).withSt { sticky with spd := false }) fun e => { e with halted := true })) fun t =>
      t.st.sr && !t.st.spd && t.st.sdad && !t.env.oslk && !t.env.halted) = true := by decide

/-- R182: SR stays at the release. -/
theorem test_step_reset_release :
    (takes (exec .resetRelease (held plain)) fun t => !t.env.inReset && t.st.sr) = true := by decide

/-- R184: an External debug reset sets the Software Lock and no stored bit. -/
theorem test_step_ext_debug_reset :
    (takes (exec .extDebugReset (running { plain with debugPower := .split true })) fun t =>
      t.env.slk && t.st == (running plain).st) = true := by decide

/-- R186: no powerdown while CORENPDRQ is 1. -/
theorem test_step_power_down_refused :
    (refusedEvent (exec (.corePowerDown .off) (withInput (running plain) fun e => { e with corenpdrq := true })) .corePowerDown) = true := by decide

/-- R186: but a low-power state may be entered. -/
theorem test_step_power_down_low_power :
    (takes (exec (.corePowerDown .lowPower) (withInput (running plain) fun e => { e with corenpdrq := true })) fun t =>
      t.env.power == .lowPower) = true := by decide

/-- R187: the state lost: a Cold reset, not entered double locked. -/
theorem test_step_power_up_lost :
    (takes (exec (.corePowerUp true) (unpowered plain)) fun t =>
      t.env.power == .on && t.env.inReset && !t.env.resetEnteredDlk && t.st.spd) = true := by decide

/-- R187: the state restored: the stored bits are back. -/
theorem test_step_power_up_restored :
    (takes (exec (.corePowerUp false) ((unpowered plain).withSt sticky)) fun t => t.st == sticky && !t.env.inReset) = true := by decide

/-- R177: entering Debug state leaves SDR. -/
theorem test_step_debug_entry :
    (takes (exec .debugEntry (running plain)) fun t => t.env.halted && !t.st.sdr) = true := by decide

/-- R177: not in reset. -/
theorem test_step_debug_entry_in_reset :
    (refusedEvent (exec .debugEntry (held plain)) .debugEntry) = true := by decide

/-- R178: leaving Debug state sets SDR. -/
theorem test_step_debug_exit :
    (takes (exec .debugExit (withInput (running plain) fun e => { e with halted := true })) fun t => !t.env.halted && t.st.sdr) = true := by decide

/-- R191: while the core is not powered SPMAD is not set. -/
theorem test_step_pmu_access_fail_locked :
    (takes (exec (.pmuAccessFail true) (withInput (running plain) fun e => { e with oslk := true, power := .off })) fun t => !t.st.spmad) = true := by decide

/-- R192: a Secure access never sets STAD. -/
theorem test_step_trace_access_fail_secure :
    (takes (exec (.traceAccessFail false) (withInput (running { plain with trbe := true }) fun e => { e with oslk := true, tracePowered := false })) fun t => !t.st.stad) = true := by decide

/-- R194: the OS Lock follows at once. -/
theorem test_step_oslock_sw :
    (takes (exec (.oslockSw true) (running plain)) fun t => t.env.oslk) = true := by decide

/-- R193: RAZ/WI without the Double Lock. -/
theorem test_step_osdlr_write_without_lock :
    (takes (exec (.osdlrWrite true) (running plain)) fun t => !t.env.osdlrDlk) = true := by decide

/-- R193: locked with it; PU and SPD then read 0 with ARMv8.2 (R138, R137). -/
theorem test_step_osdlr_write :
    (takes (exec (.osdlrWrite true) (running { plain with doubleLock := true, debugVer := .v8_2 })) fun t =>
      t.doubleLocked && (t.fieldBit debugPort .pu == false) && (t.fieldBit debugPort .spd == false)) = true := by decide

/-- R189: CORENPDRQ unlocks the Double Lock. -/
theorem test_step_corenpdrq_write :
    (takes (exec (.corenpdrqWrite true) (doubleLockedState plain)) fun t => !t.doubleLocked) = true := by decide

/-- R197: everything allowed but Non-secure debug access, ARMv8.4 with TRBE: bit 7 set, 9 and 12 clear. -/
theorem test_step_auth_change :
    (takes (exec (.authChange (authArg 0b00111110#8)) (running { plain with debugVer := .v8_4, trbe := true })) fun t =>
      takes (exec (.edprsrRd debugPort) t) fun u => u.response == .value 0x00000081#32) = true := by decide

/-- R198. -/
theorem test_step_trace_power :
    (takes (exec (.tracePower false) (running plain)) fun t => !t.env.tracePowered) = true := by decide

/-! ### Witnesses: states that meet the hypotheses of the statements -/

/-- An Armv8.4 implementation with the Software Lock and TRBE. -/
def v84Locked : Config := { plain with debugVer := .v8_4, debugPower := .split true, trbe := true }

/-- At the largest register number. -/
theorem witness_decodeOfEncodeIsTheInstruction :
    (Instr.dbgwcr 15 .read debugPort).wellFormed = true := by decide

theorem witness_decodedLabelEncodesBack :
    decode (.xdi .word 0x0314#13 5 debugPort) = .ok (.edprsrRd debugPort) := rfl

theorem witness_decoderFollowsTheOpcodeTable :
    decode (.evt 0x0900#16) = .error .unassignedEventCode ∧
    decode (.xdi .word 0x0310#13 0 debugPort) = .error .registerWithoutBehaviour := ⟨rfl, rfl⟩

/-- No label, a label that decodes, and one that does not. -/
theorem witness_stepRunsTheDecodedLabel :
    (running plain).offered = [] ∧
    ((running plain).withOffered [.evt 0x0100#16]).offered = [.evt 0x0100#16] ∧
    decode (.evt 0x0100#16) = .ok .coldReset ∧
    decode (.evt 0x0000#16) = .error .unassignedEventCode := ⟨rfl, rfl, rfl, rfl⟩

/-- A read that returns a word, and an event that returns nothing. -/
theorem witness_whatEveryStepReturns :
    takes (exec (.edprsrRd debugPort) (running plain)) (fun t => t.response == .value 0x00000001#32) = true ∧
    takes (exec .coldReset (running plain)) (fun t => t.response == .nothing) = true := by decide

/-- Enabled, and not. -/
theorem witness_stepTakenExactlyWhenEnabled :
    (running plain).enabled .coldReset = true ∧ (running plain).enabled .resetRelease = false := by decide

/-- Failing. -/
theorem witness_readFailsOnlyUnpoweredWithDopd :
    (unpowered { plain with debugPower := .dopd }).cfg.haveDopd = true ∧
    (unpowered { plain with debugPower := .dopd }).env.power ≠ .on := by decide

/-- Powered with ARMv8.3-DoPD, and unpowered without. -/
theorem witness_readFailsOnlyUnpoweredWithDopd_answers :
    (running { plain with debugPower := .dopd }).env.power = .on ∧
    (unpowered plain).cfg.haveDopd = false := by decide

/-- Out of reset. -/
theorem witness_readClearsTheStickyBits :
    (running plain).env.power = .on ∧ (running plain).doubleLocked = false ∧
    (running plain).softwareLocked debugPort = false ∧ (running plain).env.inReset = false := by decide

/-- In reset. -/
theorem witness_readClearsTheStickyBits_inReset :
    (held plain).env.power = .on ∧ (held plain).doubleLocked = false ∧
    (held plain).softwareLocked debugPort = false ∧ (held plain).env.inReset = true := by decide

theorem witness_doubleLockedReadClearsOrKeepsEachBit :
    (doubleLockedState plain).env.power = .on ∧ (doubleLockedState plain).env.inReset = false ∧
    (doubleLockedState plain).doubleLocked = true ∧
    (doubleLockedState plain).softwareLocked debugPort = false := by decide

theorem witness_softwareLockedReadClearsNothing :
    debugPort.memoryMapped = false ∧
    State.softwareLocked (withInput (running v84Locked) fun e => { e with slk := true })
      memoryMappedS = true := by decide

theorem witness_unpoweredReadsChangeNothing :
    (unpowered plain).env.power ≠ .on ∧ (unpowered plain).cfg.haveDopd = false := by decide

/-- The restoring power up leaves the Double Lock unlocked, out of reset, with the OS Lock clear. -/
theorem witness_unpoweredReadsChangeNothing_restored :
    ((unpowered plain).runSteps [.edprsrRd debugPort, .corePowerUp false]).any
      (fun u => !u.doubleLocked) = true ∧
    (unpowered plain).env.inReset = false ∧ (unpowered plain).env.oslk = false := by decide

theorem witness_unpoweredReadReturnsDraws :
    (unpowered plain).env.power ≠ .on ∧ (unpowered plain).cfg.haveDopd = false := by decide

theorem witness_secondReadShowsNoStickyBit :
    (running plain).env.power = .on ∧ (running plain).env.inReset = false ∧
    (running plain).doubleLocked = false ∧ (running plain).softwareLocked debugPort = false ∧
    (running plain).env.oslk = false := by decide

/-- The OS Lock set before ARMv8.4-Debug, with OSLAR_EL1 writes that fault: RD-04 of 95_test_vectors.md. -/
theorem witness_secondReadShowsNoStickyBit_osLocked :
    (withInput (running plain) fun e => { e with oslk := true }).env.power = .on ∧
    (withInput (running plain) fun e => { e with oslk := true }).env.inReset = false ∧
    (withInput (running plain) fun e => { e with oslk := true }).doubleLocked = false ∧
    State.softwareLocked (withInput (running plain) fun e => { e with oslk := true }) debugPort = false ∧
    plain.v84 = false ∧ plain.oslarErrOnEdad = true := by decide

/-- Unpowered, powered, and double locked. -/
theorem witness_haltedShowsDebugStateWhenPowered :
    (unpowered plain).cfg.haveDopd = false ∧ (unpowered plain).env.power ≠ .on ∧
    (running plain).env.power = .on ∧
    (doubleLockedState plain).env.power = .on ∧ (doubleLockedState plain).doubleLocked = true := by decide

/-- The OS Lock clear, and set with ARMv8.4-Debug. -/
theorem witness_runningReadReturnsEveryFact :
    (running plain).env.power = .on ∧ (running plain).env.inReset = false ∧
    (running plain).doubleLocked = false ∧ (running plain).env.oslk = false ∧
    (withInput (running v84Locked) fun e => { e with oslk := true }).cfg.v84 = true := by decide

theorem witness_osLockedReadHidesTheAccessErrors :
    (withInput (running plain) fun e => { e with oslk := true }).env.power = .on ∧
    (withInput (running plain) fun e => { e with oslk := true }).env.inReset = false ∧
    (withInput (running plain) fun e => { e with oslk := true }).doubleLocked = false ∧
    (withInput (running plain) fun e => { e with oslk := true }).env.oslk = true ∧ plain.v84 = false := by decide

theorem witness_readInResetHidesTheRest :
    (held plain).env.power = .on ∧ (held plain).env.inReset = true ∧ (held plain).doubleLocked = false := by decide

theorem witness_doubleLockedReadByVariant :
    (doubleLockedState plain).env.power = .on ∧ (doubleLockedState plain).env.inReset = false ∧
    (doubleLockedState plain).doubleLocked = true := by decide

/-- No TRBE, ARMv8.4-Debug. -/
theorem witness_reservedBitsReadAsZero :
    takes (exec (.edprsrRd debugPort) (running { plain with debugVer := .v8_4 })) (fun t =>
      t.response == .value 0x00000001#32) = true ∧
    plain.trbe = false ∧ plain.doubleLock = false ∧ Config.v84 { plain with debugVer := .v8_4 } = true := by decide

theorem witness_readIgnoresSecurityWithV84 :
    (running v84Locked).cfg.v84 = true := by decide

/-- With the permission, and without where it is not checked. -/
theorem witness_permittedOslarWriteSetsTheOsLock :
    (running plain).env.power = .on ∧ (running plain).doubleLocked = false ∧
    (running plain).env.allowDebug.allows debugPort = true ∧
    (denied { plain with debugVer := .v8_0 false }).cfg.oslarErrOnEdad = false ∧
    (running plain).softwareLocked debugPort = false ∧ (running plain).env.inReset = false := by decide

theorem witness_oslarWriteIgnoredUnderSoftwareLock :
    (running v84Locked).env.power = .on ∧ (running v84Locked).doubleLocked = false ∧
    (running v84Locked).env.allowDebug.allows memoryMappedS = true ∧
    State.softwareLocked (withInput (running v84Locked) fun e => { e with slk := true }) memoryMappedS = true := by decide

/-- Each of the three causes. -/
theorem witness_failedOslarWriteAndSdad :
    (unpowered plain).env.power ≠ .on ∧ (doubleLockedState plain).doubleLocked = true ∧
    (denied plain).env.allowDebug.allows debugPort = false ∧ (denied plain).cfg.oslarErrOnEdad = true := by decide

/-- Failing, and not. -/
theorem witness_edlarWriteSetsTheSoftwareLock :
    (unpowered { plain with debugPower := .dopd }).cfg.haveDopd = true ∧
    (unpowered { plain with debugPower := .dopd }).env.power ≠ .on ∧
    (running v84Locked).cfg.haveDopd = false ∧ (running v84Locked).cfg.haveSoftwareLock = true := by decide

theorem witness_permittedBreakpointWatchpointAccess :
    (running plain).env.power = .on ∧ (running plain).doubleLocked = false ∧
    (running plain).env.oslk = false ∧ (running plain).env.allowDebug.allows debugPort = true := by decide

/-- Each of the four causes. -/
theorem witness_failedBreakpointWatchpointAccessAndSdad :
    (unpowered plain).env.power ≠ .on ∧ (doubleLockedState plain).doubleLocked = true ∧
    (withInput (running plain) fun e => { e with oslk := true }).env.oslk = true ∧
    (denied plain).env.allowDebug.allows debugPort = false := by decide

/-- An OSLAR_EL1 write and a breakpoint access. -/
theorem witness_failedAccessIsReportedOnce :
    debugRegisterAccess (.oslarWr 0 debugPort) = some debugPort ∧
    debugRegisterAccess (.dbgbcr 15 .read debugPort) = some debugPort ∧
    (denied plain).env.power = .on ∧ (denied plain).env.inReset = false ∧
    (denied plain).doubleLocked = false ∧ (denied plain).env.oslk = false ∧
    (denied plain).env.allowDebug.allows debugPort = false ∧
    (denied plain).cfg.oslarErrOnEdad = true ∧ (denied plain).cfg.v84 = false ∧
    (denied plain).softwareLocked memoryMappedS = false := by decide

/-- A failing access. -/
theorem witness_errorResponseConditionsAndEffect :
    takes (exec (.dbgbcr 0 .read debugPort) (denied plain)) (fun t => t.response == .error) = true := by decide

theorem witness_coldResetEffect :
    (running plain).env.power = .on := by decide

theorem witness_warmResetEffect :
    (running plain).env.power = .on := by decide

theorem witness_resetReleaseEffect :
    (held plain).env.power = .on ∧ (held plain).env.inReset = true ∧ (held plain).st.sr = true := by decide

/-- Released, then a sequence without a read, after which SR can be read and cleared. -/
theorem witness_resetReleaseEffect_untilTheRead :
    ((held plain).runSteps [.resetRelease, .debugEntry, .debugExit]).any (fun u =>
      u.env.power == .on && !u.doubleLocked && !u.env.inReset && !u.softwareLocked debugPort) = true ∧
    (∀ i ∈ [Instr.debugEntry, .debugExit], clearsStoredBits i = false) := by decide

/-- From the powerup state, from a low-power state, and with CORENPDRQ 1. -/
theorem witness_corePowerDownEffect :
    (running plain).env.power = .on ∧
    (withInput (running plain) fun e => { e with power := .lowPower }).env.power ≠ .off ∧ (running plain).env.corenpdrq = false ∧
    (withInput (running plain) fun e => { e with corenpdrq := true }).env.corenpdrq = true := by decide

theorem witness_powerUpLostIsAColdReset :
    (unpowered plain).env.power ≠ .on := by decide

theorem witness_powerUpRestoredKeepsTheBits :
    (unpowered plain).env.power ≠ .on := by decide

theorem witness_debugEntryEffect :
    (running plain).env.power = .on ∧ (running plain).env.inReset = false ∧
    (running plain).env.halted = false := by decide

theorem witness_debugExitEffect :
    (withInput (running plain) fun e => { e with halted := true }).env.power = .on ∧
    (withInput (running plain) fun e => { e with halted := true }).env.halted = true := by decide

/-- Each of the four causes. -/
theorem witness_pmuAccessFailEffect :
    (unpowered plain).env.power ≠ .on ∧ (doubleLockedState plain).doubleLocked = true ∧
    (withInput (running plain) fun e => { e with oslk := true }).env.oslk = true ∧
    Permission.allows (allow false) { memoryMapped := false, nonSecure := true } = false ∧
    Permission.allows (allow false) { memoryMapped := true, nonSecure := true } = false := by decide

/-- Each of the three causes. -/
theorem witness_traceAccessFailEffect :
    (withInput (running plain) fun e => { e with oslk := true }).env.oslk = true ∧
    (withInput (running plain) fun e => { e with tracePowered := false }).env.tracePowered = false ∧
    (withInput (running plain) fun e => { e with allowTrace := allow false }).env.allowTrace.allows nonSecurePort = false ∧
    (withInput (running plain) fun e => { e with allowTrace := allow false }).env.allowTrace.allows
      { memoryMapped := true, nonSecure := true } = false := by decide

theorem witness_lockAndPowerRequestWrites :
    (running plain).env.power = .on ∧ (running plain).env.inReset = false := by decide

/-- The OS Lock clear, and set with ARMv8.4-Debug. -/
theorem witness_authChangeShowsInTheNextRead :
    (running plain).env.power = .on ∧ (running plain).env.inReset = false ∧
    (running plain).doubleLocked = false ∧ (running plain).env.oslk = false ∧
    (withInput (running v84Locked) fun e => { e with oslk := true }).env.power = .on ∧
    (withInput (running v84Locked) fun e => { e with oslk := true }).doubleLocked = false ∧
    (withInput (running v84Locked) fun e => { e with oslk := true }).cfg.v84 = true := by decide

/-- A step that is taken, a TRACE_ACCESS_FAIL with the OS Lock set, and an event that is refused. -/
theorem witness_tracePowerEffect :
    takes (exec .coldReset (running plain)) (fun t => t.env.inReset) = true ∧
    takes (exec (.traceAccessFail true) (withInput (running plain) fun e => { e with oslk := true }))
      (fun t => t.env.oslk) = true ∧
    exec .resetRelease (running plain) = .refused (.eventNotEnabled .resetRelease) := by
  refine ⟨by decide, by decide, rfl⟩

/-- SDAD, SDR, SR and SPD do get set. -/
theorem witness_onlyTheseStepsSetAStoredBit :
    takes (exec (.dbgbcr 0 .read debugPort) (denied plain)) (fun t => t.st.sdad) = true ∧
    takes (exec .debugExit (withInput (running plain) fun e => { e with halted := true }))
      (fun t => t.st.sdr) = true ∧
    takes (exec .coldReset (running plain)) (fun t => t.st.sr && t.st.spd) = true := by decide

/-- A read and a Cold reset do clear. -/
theorem witness_onlyTheseStepsClearAStoredBit :
    takes (exec (.edprsrRd debugPort) ((running plain).withSt sticky)) (fun t => !t.st.sr && !t.st.spd) = true ∧
    takes (exec .coldReset ((running plain).withSt sticky)) (fun t => !t.st.sdad) = true := by decide

theorem witness_onlyTheseStepsChangeAnInput :
    takes (exec .coldReset (running plain)) (fun t => t.env.inReset && t.env.oslk) = true := by decide

theorem witness_unpoweredBitsAreUntouched :
    (unpowered plain).env.power ≠ .on ∧
    takes (exec (.edprsrRd debugPort) ((unpowered plain).withSt sticky)) (fun t => t.st == sticky) = true := by decide

/-- An exit from Debug state, kept through a powerdown. -/
theorem witness_noSettingIsLost :
    (State.runSteps ((running plain).withSt sticky)
      [.debugEntry, .debugExit, .corePowerDown .off, .corePowerUp false]).isSome = true ∧
    (∀ i ∈ [Instr.debugEntry, .debugExit, .corePowerDown .off, .corePowerUp false],
      clearsStoredBits i = false) ∧ sticky.get .sdr = true := by decide

theorem witness_coldResetAsTheDebuggerSeesIt :
    (running plain).env.power = .on ∧ (running plain).softwareLocked debugPort = false ∧
    (running plain).doubleLocked = false ∧ (running plain).env.inReset = false := by decide

/-- Before the reset the OS Lock is clear, so that the sticky error bits are readable. -/
theorem witness_warmResetAsTheDebuggerSeesIt :
    (running plain).env.power = .on ∧ (running plain).softwareLocked debugPort = false ∧
    (running plain).doubleLocked = false ∧ (running plain).env.inReset = false ∧
    (running plain).env.oslk = false := by decide

/-- With CORENPDRQ 0, for both powerdowns. -/
theorem witness_lifeOfSpd :
    (running plain).env.power = .on ∧ (running plain).env.corenpdrq = false ∧
    (running plain).env.inReset = false ∧ (running plain).softwareLocked debugPort = false ∧
    (running plain).env.osdlrDlk = false := by decide

/-- Both requests have an effect; the three ignore conditions, the Software Lock and an implementation
that ignores the request each shut the Warm reset out. -/
theorem witness_edprcrRequestsAreEnabledEvents :
    State.edprcrWriteEffective (withInput (running v84Locked) fun e => { e with slk := true }) memoryMappedS = false ∧
    (running plain).warmResetMayFollow debugPort
      { haveEl3 := false, onlySecure := false, enabled := false, secureEnabled := true } = false ∧
    (running plain).warmResetMayFollow debugPort
      { haveEl3 := false, onlySecure := true, enabled := true, secureEnabled := false } = false ∧
    (running plain).warmResetMayFollow debugPort
      { haveEl3 := true, onlySecure := false, enabled := true, secureEnabled := false } = false ∧
    (running { plain with warmResetExtent := .ignored }).warmResetMayFollow debugPort
      { haveEl3 := true, onlySecure := false, enabled := true, secureEnabled := true } = false ∧
    (running plain).edprcrWriteEffective debugPort = true ∧
    (running plain).warmResetMayFollow debugPort
      { haveEl3 := true, onlySecure := false, enabled := true, secureEnabled := true } = true := by decide

/-- A running state has the invariant, and a step from it answers a next state. -/
theorem witness_everyStepKeepsTheInvariant :
    State.Inv ((running plain).withOffered [.evt 0x0100#16]) ∧
    takes (step ((running plain).withOffered [.evt 0x0100#16])) (fun t => t.env.inReset) = true := by
  refine ⟨?_, by decide⟩
  constructor <;> decide

/-- A running state has the invariant, the read answers a word, and the word is believed. -/
theorem witness_believableFieldsAreTrue :
    State.Inv (running plain) ∧ (running plain).cfg.haveDopd = false ∧
    (running plain).inDoubleLockedReset = false ∧
    takes (exec (.edprsrRd debugPort) (running plain)) (fun t =>
      t.response == .value 0x00000001#32) = true ∧
    believable plain 0x00000001#32 .sr = true := by
  refine ⟨?_, by decide, by decide, by decide, by decide⟩
  constructor <;> decide

/-- With PU = 0, of a core that is switched off, SPD alone is believed, and says the implementation's value. -/
theorem witness_believableFieldsAreTrue_unpowered :
    State.Inv (unpowered plain) ∧ (unpowered plain).cfg.haveDopd = false ∧
    (unpowered plain).inDoubleLockedReset = false ∧
    (exec (.edprsrRd debugPort) (unpowered plain) matches .next _) = true ∧
    believable plain 0x00000002#32 .spd = true ∧ believable plain 0x00000002#32 .halted = false ∧
    (unpowered plain).spdFact = true ∧ (doubleLockedState plain).spdFact = false := by
  refine ⟨?_, by decide, by decide, rfl, by decide, by decide, by decide, by decide⟩
  constructor <;> decide

end Sys2Proof.Tests
end

section
/-! PROOFS of the family 00_scope.md, section 4: what the options exclude, and what the identification
fields report of them. Each lemma follows the one choice of the configuration that its rule speaks of. -/

namespace Sys2Proof

/-- R13: `DebugPower` has a place for the Software Lock only without ARMv8.3-DoPD. -/
theorem Config.haveSoftwareLock_of_haveDopd (c : Config) (h : c.haveDopd = true) :
    c.haveSoftwareLock = false := by
  cases hp : c.debugPower with
  | dopd => simp [Config.haveSoftwareLock, hp]
  | split lock => simp [Config.haveDopd, hp] at h

/-- R11 with the spec's decision D1: the versions are cumulative. -/
theorem Config.v82_of_v84 (c : Config) (h : c.v84 = true) : c.v82 = true := by
  cases hv : c.debugVer with
  | v8_4 => simp [Config.v82, hv]
  | v8_0 _ | v8_0Vhe _ | v8_2 => simp [Config.v84, hv] at h

/-- R11, the value of ARMv8.4-Debug. -/
theorem Config.archver_eq_0b1001_iff (c : Config) : c.archver = 0b1001#4 ↔ c.v84 = true := by
  cases hv : c.debugVer <;> simp [Config.archver, Config.v84, hv]

/-- R11, the value of ARMv8.2-Debug: ARMv8.4-Debug, which also has it, reports its own. -/
theorem Config.archver_eq_0b1000_iff (c : Config) :
    c.archver = 0b1000#4 ↔ c.v82 = true ∧ c.v84 = false := by
  cases hv : c.debugVer <;> simp [Config.archver, Config.v82, Config.v84, hv]

/-- R11, the two values of Armv8.0 Debug, with and without the Virtualization Host Extensions. -/
theorem Config.archver_eq_0b0110_or_0b0111_iff (c : Config) :
    c.archver = 0b0110#4 ∨ c.archver = 0b0111#4 ↔ c.v82 = false := by
  cases hv : c.debugVer <;> simp [Config.archver, Config.v82, hv]

/-- R13: what the access sees of the Software Lock. -/
theorem Config.edlsrSli_iff (c : Config) (acc : AccessAttr) :
    c.edlsrSli acc = true ↔ c.haveSoftwareLock = true ∧ acc.memoryMapped = true :=
  Bool.and_eq_true_iff

/-- Settles O10. The exclusions and the two fields with a rule of their own are the lemmas above; the
other four fields are the model's definitions of them, which write the field's two values as R9, R10
and R12 list them. -/
theorem optionsAndTheirIdentification : Obligations.OptionsAndTheirIdentification := by
  intro c
  exact ⟨c.haveSoftwareLock_of_haveDopd, c.v82_of_v84, Machine.oslarErrOnEdad_of_v82 c, rfl,
    c.archver_eq_0b1001_iff, c.archver_eq_0b1000_iff, c.archver_eq_0b0110_or_0b0111_iff,
    rfl, rfl, rfl, c.edlsrSli_iff⟩

end Sys2Proof
end

section
/-! PROOFS of the family 10_state.md, part 1: the status functions and what a step returns (O6, O8, O9). -/

namespace Sys2Proof.Machine

/-! ### The status functions and the step -/

theorem doubleLocked_iff (s : State) :
    s.doubleLocked = true ↔ s.cfg.doubleLock = true ∧ s.env.osdlrDlk = true ∧
      s.env.corenpdrq = false ∧ s.env.halted = false := by
  simp only [State.doubleLocked, Bool.and_eq_true, Bool.not_eq_true']
  tauto

theorem softwareLocked_iff (s : State) (acc : AccessAttr) :
    s.softwareLocked acc = true ↔ s.cfg.haveSoftwareLock = true ∧ acc.memoryMapped = true ∧
      s.env.slk = true := by
  simp only [State.softwareLocked, Bool.and_eq_true, and_assoc]

/-- Settles O9. `OSLockStatus()` is the input itself. -/
theorem statusFunctions : Obligations.StatusFunctions := fun s acc =>
  ⟨corePowered_iff s, doubleLocked_iff s, Iff.rfl, softwareLocked_iff s acc⟩

theorem step_of_offered_nil (s : State) (h : s.offered = []) : step s = .fault .noStepOffered := by
  simp only [step, h]

theorem step_of_decode_ok (s : State) (l : Label) (rest : List Label) (i : Instr)
    (h : s.offered = l :: rest) (hd : decode l = .ok i) : step s = exec i (s.withOffered rest) := by
  simp only [step, h, hd]

theorem step_of_decode_error (s : State) (l : Label) (rest : List Label) (why : LabelError)
    (h : s.offered = l :: rest) (hd : decode l = .error why) :
    step s = .refused (.undescribedLabel why) := by
  simp only [step, h, hd]

/-- Settles O6, by the three outcomes of taking the oldest label. -/
theorem stepRunsTheDecodedLabel : Obligations.StepRunsTheDecodedLabel := fun s =>
  ⟨step_of_offered_nil s, fun l rest h =>
    ⟨fun i hd => step_of_decode_ok s l rest i h hd,
     fun why hd => step_of_decode_error s l rest why h hd⟩⟩

/-! ### The frame of the larger operations -/

variable (s : State)

@[simp] theorem failDebugAccess_cfg (acc : AccessAttr) (denied otherCause : Bool) :
    (s.failDebugAccess acc denied otherCause).cfg = s.cfg := rfl
@[simp] theorem failDebugAccess_env (acc : AccessAttr) (denied otherCause : Bool) :
    (s.failDebugAccess acc denied otherCause).env = s.env := rfl
@[simp] theorem failDebugAccess_st (acc : AccessAttr) (denied otherCause : Bool) :
    (s.failDebugAccess acc denied otherCause).st =
      { s.st with sdad := s.sdadAfterFailure acc denied otherCause } := rfl
@[simp] theorem failDebugAccess_response (acc : AccessAttr) (denied otherCause : Bool) :
    (s.failDebugAccess acc denied otherCause).response = .error := rfl
@[simp] theorem failDebugAccess_offered (acc : AccessAttr) (denied otherCause : Bool) :
    (s.failDebugAccess acc denied otherCause).offered = s.offered := rfl
@[simp] theorem failDebugAccess_draws (acc : AccessAttr) (denied otherCause : Bool) :
    (s.failDebugAccess acc denied otherCause).draws = s.draws + 1 := rfl

@[simp] theorem enterColdReset_cfg : s.enterColdReset.cfg = s.cfg := rfl
@[simp] theorem enterColdReset_st : s.enterColdReset.st = s.latchesColdReset := rfl
@[simp] theorem enterColdReset_offered : s.enterColdReset.offered = s.offered := rfl
@[simp] theorem enterColdReset_draws : s.enterColdReset.draws = s.draws + 1 := rfl

@[simp] theorem enterWarmReset_cfg : s.enterWarmReset.cfg = s.cfg := rfl
@[simp] theorem enterWarmReset_st : s.enterWarmReset.st = s.latchesWarmReset := rfl
@[simp] theorem enterWarmReset_offered : s.enterWarmReset.offered = s.offered := rfl
@[simp] theorem enterWarmReset_draws : s.enterWarmReset.draws = s.draws + 1 := rfl

@[simp] theorem powerUpLost_cfg : s.powerUpLost.cfg = s.cfg := rfl
@[simp] theorem powerUpLost_st : s.powerUpLost.st = s.latchesColdReset := rfl
@[simp] theorem powerUpLost_offered : s.powerUpLost.offered = s.offered := rfl
@[simp] theorem powerUpLost_draws : s.powerUpLost.draws = s.draws + 1 := rfl

@[simp] theorem powerUpRestored_cfg : s.powerUpRestored.cfg = s.cfg := rfl
@[simp] theorem powerUpRestored_st : s.powerUpRestored.st = s.st := rfl
@[simp] theorem powerUpRestored_offered : s.powerUpRestored.offered = s.offered := rfl
@[simp] theorem powerUpRestored_draws : s.powerUpRestored.draws = s.draws + 1 := rfl

/-! ### What every step leaves -/

/-- What the machine never writes: the parameters and the labels still to come stay, and no step gives a
draw back. -/
def State.Continues (s t : State) : Prop :=
  t.cfg = s.cfg ∧ t.offered = s.offered ∧ s.draws ≤ t.draws

variable {s} {t : State} {i : Instr} {acc : AccessAttr}

theorem breakWatchAccess_continues (op : RegOp) (acc : AccessAttr) :
    s.Continues (s.breakWatchAccess op acc) := by
  obtain ⟨-, heq⟩ | ⟨-, -, heq⟩ | ⟨-, -, heq⟩ := breakWatchAccess_cases s op acc <;>
    simp [heq, State.Continues]

/-- The outcomes of `exec` are built of operations whose frames are the lemmas above. -/
theorem exec_continues (h : exec i s = .next t) : s.Continues t := by
  apply exec_cases (P := fun _ u => s.Continues u) (h := h)
  case breakWatch => exact fun _ _ op acc _ => breakWatchAccess_continues op acc
  all_goals intros; simp [State.Continues]

/-! ### What every step returns -/

/-- The seven reads of the opcode table (R104). -/
def IsRead (i : Instr) : Prop :=
  ∃ (n : Nat) (acc : AccessAttr), i ∈ [Instr.edprsrRd acc, .dbgbvrLo n .read acc,
    .dbgbvrHi n .read acc, .dbgbcr n .read acc, .dbgwvrLo n .read acc, .dbgwvrHi n .read acc,
    .dbgwcr n .read acc]

/-- `r` is a response that the label `i` may return (R62, R170, R203). -/
def Returns (i : Instr) (r : Response) : Prop :=
  (isAccess i = false ↔ r = .nothing) ∧ ∀ v, r = .value v → IsRead i

theorem returns_nothing (hi : isAccess i = false) : Returns i .nothing := by
  simp [Returns, hi]

theorem returns_ok (hi : isAccess i = true) : Returns i .ok := by
  simp [Returns, hi]

theorem returns_error (hi : isAccess i = true) : Returns i .error := by
  simp [Returns, hi]

theorem returns_value (v : Word) (hi : isAccess i = true) (hr : IsRead i) : Returns i (.value v) := by
  simp [Returns, hi, hr]

/-- The six breakpoint and watchpoint rows (R165). -/
abbrev breakWatchRows (n : Nat) (op : RegOp) (acc : AccessAttr) : List Instr :=
  [.dbgbvrLo n op acc, .dbgbvrHi n op acc, .dbgbcr n op acc, .dbgwvrLo n op acc,
   .dbgwvrHi n op acc, .dbgwcr n op acc]

theorem debugRegisterAccess_of_breakWatchRow {n : Nat} {op : RegOp}
    (hi : i ∈ breakWatchRows n op acc) : debugRegisterAccess i = some acc := by
  simp only [List.mem_cons, List.not_mem_nil, or_false] at hi
  obtain rfl | rfl | rfl | rfl | rfl | rfl := hi <;> rfl

theorem isAccess_of_breakWatchRow {n : Nat} {op : RegOp} (hi : i ∈ breakWatchRows n op acc) :
    isAccess i = true := by
  simp only [List.mem_cons, List.not_mem_nil, or_false] at hi
  obtain rfl | rfl | rfl | rfl | rfl | rfl := hi <;> cases op <;> rfl

theorem isRead_of_breakWatchRow {n : Nat} (hi : i ∈ breakWatchRows n .read acc) : IsRead i :=
  ⟨n, acc, List.mem_cons_of_mem _ hi⟩

theorem breakWatchAccess_returns {n : Nat} {op : RegOp} (hi : i ∈ breakWatchRows n op acc) :
    Returns i (s.breakWatchAccess op acc).response := by
  have ha := isAccess_of_breakWatchRow hi
  obtain ⟨-, heq⟩ | ⟨-, -, heq⟩ | ⟨-, rfl, heq⟩ := breakWatchAccess_cases s op acc <;> rw [heq]
  · exact returns_error ha
  · exact returns_ok ha
  · exact returns_value _ ha (isRead_of_breakWatchRow hi)

/-- By the outcomes of `exec`: the accesses with their responses, then the events. -/
theorem exec_returns (h : exec i s = .next t) : Returns i t.response := by
  apply exec_cases (P := fun i u => Returns i u.response) (h := h)
  case read => exact fun acc _ => returns_value _ rfl ⟨0, acc, List.mem_cons_self⟩
  case breakWatch => exact fun _ _ _ _ hi => breakWatchAccess_returns hi
  case readFails | writeFails | oslarFails | edlarFails => intros; exact returns_error rfl
  case write | oslarIgnored | oslar | edlarIgnored | edlar => intros; exact returns_ok rfl
  all_goals intros; exact returns_nothing rfl

/-- Settles O8. -/
theorem whatEveryStepReturns : Obligations.WhatEveryStepReturns := by
  intro i s t h
  obtain ⟨hcfg, hoffered, hdraws⟩ := exec_continues h
  obtain ⟨hnothing, hvalue⟩ := exec_returns h
  exact ⟨hcfg, hoffered, hdraws, hnothing, hvalue⟩

end Sys2Proof.Machine
end

section
/-! PROOFS of the family 10_state.md, part 2: the invariant (O54). -/

namespace Sys2Proof.Machine

variable {s t : State} {i : Instr}

/-! ### What the invariant does not read

It reads the parameters, `st.stad`, `st.sr` and six of the inputs. -/

@[simp] theorem inv_respond (r : Response) : (s.respond r).Inv ↔ s.Inv :=
  ⟨fun h => { h with }, fun h => { h with }⟩

@[simp] theorem inv_tick : s.tick.Inv ↔ s.Inv :=
  ⟨fun h => { h with }, fun h => { h with }⟩

@[simp] theorem inv_withOffered (ls : List Label) : (s.withOffered ls).Inv ↔ s.Inv :=
  ⟨fun h => { h with }, fun h => { h with }⟩

@[simp] theorem inv_eventDone : s.eventDone.Inv ↔ s.Inv := inv_respond _

@[simp] theorem inv_errorResponse : s.errorResponse.Inv ↔ s.Inv := inv_respond _

/-! ### The stored bits -/

/-- Of the stored bits the invariant reads STAD and SR (R56 (a), (b)). -/
theorem inv_withSt (hi : s.Inv) (st : Latches) (hstad : s.cfg.trbe = false → st.stad = false)
    (hsr : s.env.inReset = true → st.sr = true) : (s.withSt st).Inv :=
  { hi with stad_zero := hstad, sr_in_reset := hsr }

theorem inv_failDebugAccess (hi : s.Inv) (acc : AccessAttr) (denied otherCause : Bool) :
    (s.failDebugAccess acc denied otherCause).Inv :=
  { hi with }

theorem inv_breakWatchAccess (hi : s.Inv) (op : RegOp) (acc : AccessAttr) :
    (s.breakWatchAccess op acc).Inv := by
  obtain ⟨-, heq⟩ | ⟨-, -, heq⟩ | ⟨-, -, heq⟩ := breakWatchAccess_cases s op acc <;> rw [heq]
  · exact inv_failDebugAccess hi _ _ _
  · simpa using hi
  · simpa using hi

/-- Each bit that a read leaves is the bit before it or the cleared one (R140 to R145). -/
theorem latchesAfterRead_get (s : State) (acc : AccessAttr) (b : Sticky) :
    (s.latchesAfterRead acc).get b = s.st.get b ∨
      (s.latchesAfterRead acc).get b = s.clearedLatches.get b := by
  cases hs : s.softwareLocked acc with
  | true => exact .inl (by rw [latchesAfterRead_softwareLocked s acc hs])
  | false =>
    cases hp : s.corePowered with
    | false => exact .inl (by rw [latchesAfterRead_unpowered s acc hp])
    | true =>
      cases hd : s.doubleLocked with
      | false => exact .inr (by rw [latchesAfterRead_unlocked s acc hs hp hd])
      | true =>
        rw [latchesAfterRead_doubleLocked s acc b hs hp hd]
        split_ifs
        · exact .inl rfl
        · exact .inr rfl

/-- A read keeps SR while the PE is in reset state (R143). -/
theorem clearedLatches_sr_of_inReset (s : State) (hr : s.env.inReset = true) :
    s.clearedLatches.get .sr = s.st.get .sr := by
  simp [State.clearedLatches, Latches.get, hr]

theorem inv_read (hi : s.Inv) (acc : AccessAttr) : (s.withSt (s.latchesAfterRead acc)).Inv := by
  refine inv_withSt hi _ (fun ht => ?_) (fun hr => ?_)
  · obtain h | h := latchesAfterRead_get s acc .stad
    · exact h.trans (hi.stad_zero ht)
    · exact h
  · obtain h | h := latchesAfterRead_get s acc .sr
    · exact h.trans (hi.sr_in_reset hr)
    · exact (h.trans (clearedLatches_sr_of_inReset s hr)).trans (hi.sr_in_reset hr)

/-- R192: without TRBE a failed trace access leaves STAD. -/
theorem stadAfterFailure_of_not_trbe (s : State) (acc : AccessAttr) (ht : s.cfg.trbe = false) :
    s.stadAfterFailure acc = s.st.stad := by
  simp [State.stadAfterFailure, ht]

theorem inv_traceAccessFail (hi : s.Inv) (acc : AccessAttr) :
    (s.withSt { s.st with stad := s.stadAfterFailure acc }).Inv :=
  inv_withSt hi _ (fun ht => (stadAfterFailure_of_not_trbe s acc ht).trans (hi.stad_zero ht))
    hi.sr_in_reset

/-! ### The resets and the power -/

theorem doubleLocked_of_not_doubleLock (s : State) (h : s.cfg.doubleLock = false) :
    s.doubleLocked = false := by
  simp [State.doubleLocked, h]

/-- R42: a reset remembers the Double Lock only where there is one. -/
theorem envInReset_resetEnteredDlk_of_not_doubleLock (hi : s.Inv) (h : s.cfg.doubleLock = false) :
    s.envInReset.resetEnteredDlk = false := by
  simp [State.envInReset, hi.entered_dlk h, doubleLocked_of_not_doubleLock s h]

theorem inv_enterWarmReset (hi : s.Inv) : s.enterWarmReset.Inv where
  stad_zero := hi.stad_zero
  sr_in_reset _ := rfl
  not_halted_in_reset _ := rfl
  osdlr_zero_in_reset _ := rfl
  osdlr_zero _ := rfl
  entered_dlk := envInReset_resetEnteredDlk_of_not_doubleLock (s := s) hi
  off_corenpdrq := hi.off_corenpdrq

/-- R180 draws CORENPDRQ, so the last clause needs the core powered, which COLD_RESET asks for (R171). -/
theorem inv_enterColdReset (hi : s.Inv) (hp : s.env.power = .on) : s.enterColdReset.Inv where
  stad_zero _ := rfl
  sr_in_reset _ := rfl
  not_halted_in_reset _ := rfl
  osdlr_zero_in_reset _ := rfl
  osdlr_zero _ := rfl
  entered_dlk := envInReset_resetEnteredDlk_of_not_doubleLock (s := s) hi
  off_corenpdrq hoff := absurd (hp.symm.trans hoff) nofun

/-- Coming up, the core satisfies the clause about a core that is off. -/
theorem inv_powerUp (hi : s.Inv) (corenpdrq : Bool) :
    (s.withEnv { s.env with power := .on, corenpdrq := corenpdrq }).Inv :=
  { hi with off_corenpdrq := nofun }

theorem inv_powerUpLost (hi : s.Inv) : s.powerUpLost.Inv :=
  { inv_enterColdReset (inv_powerUp hi s.env.corenpdrq) rfl with entered_dlk := fun _ => rfl }

theorem inv_powerUpRestored (hi : s.Inv) : s.powerUpRestored.Inv :=
  inv_tick.2 (inv_powerUp hi _)

/-- R186: CORENPDRQ keeps the core from being switched off. -/
theorem inv_corePowerDown (hi : s.Inv) (k : DownTo) (hk : s.canPowerDown k = true) :
    (s.withEnv { s.env with power := powerAfterDown k }).Inv := by
  refine { hi with off_corenpdrq := fun hoff => ?_ }
  obtain ⟨rfl, -⟩ | ⟨-, -, hc⟩ := (canPowerDown_iff s k).1 hk
  · cases hoff
  · exact hc

theorem inv_corenpdrqWrite (hi : s.Inv) (b : Bool) (hp : s.env.power = .on) :
    (s.withEnv { s.env with corenpdrq := b }).Inv :=
  { hi with off_corenpdrq := fun hoff => absurd (hp.symm.trans hoff) nofun }

/-- Out of reset the clauses about reset state hold. -/
theorem inv_resetRelease (hi : s.Inv) : (s.withEnv { s.env with inReset := false }).Inv :=
  { hi with sr_in_reset := nofun, not_halted_in_reset := nofun, osdlr_zero_in_reset := nofun }

/-! ### Debug state and the Double Lock -/

theorem softwareRuns_iff (s : State) :
    s.softwareRuns = true ↔ s.env.power = .on ∧ s.env.inReset = false := by
  simp [State.softwareRuns, corePowered_iff]

/-- A write that software makes finds the PE out of reset (R177, R193). -/
theorem not_inReset_of_softwareRuns (h : s.softwareRuns = true) : ¬ s.env.inReset = true := by
  simp [((softwareRuns_iff s).1 h).2]

theorem inv_debugEntry (hi : s.Inv) (h : s.softwareRuns = true) :
    (s.withEnv { s.env with halted := true }).Inv :=
  { hi with not_halted_in_reset := fun hr => absurd hr (not_inReset_of_softwareRuns h) }

theorem inv_debugExit (hi : s.Inv) :
    ((s.withEnv { s.env with halted := false }).withSt { s.st with sdr := true }).Inv :=
  { hi with not_halted_in_reset := fun _ => rfl }

theorem inv_osdlrWrite (hi : s.Inv) (b : Bool) (h : s.softwareRuns = true)
    (hd : s.cfg.doubleLock = true) : (s.withEnv { s.env with osdlrDlk := b }).Inv :=
  { hi with
    osdlr_zero_in_reset := fun hr => absurd hr (not_inReset_of_softwareRuns h)
    osdlr_zero := fun hn => absurd (hd.symm.trans hn) nofun }

/-! ### Every label -/

/-- Every label keeps the invariant: the labels whose rule a clause rests on by the lemmas above, the
others because they write nothing that the invariant reads. -/
theorem exec_keeps_inv (hi : s.Inv) (h : exec i s = .next t) : t.Inv := by
  apply exec_cases (P := fun _ u => u.Inv) (h := h)
  case read => exact fun acc _ => inv_tick.2 ((inv_respond _).2 (inv_read hi acc))
  case oslarFails => exact fun _ acc _ => inv_failDebugAccess hi acc _ _
  case breakWatch => exact fun _ _ op acc _ => inv_breakWatchAccess hi op acc
  case coldReset => exact fun hp => inv_eventDone.2 (inv_enterColdReset hi ((corePowered_iff s).1 hp))
  case warmReset => exact fun _ => inv_eventDone.2 (inv_enterWarmReset hi)
  case resetRelease => exact fun _ _ => inv_eventDone.2 (inv_resetRelease hi)
  case corePowerDown => exact fun k hk => inv_eventDone.2 (inv_corePowerDown hi k hk)
  case powerUpLost => exact fun _ => inv_eventDone.2 (inv_powerUpLost hi)
  case powerUpRestored => exact fun _ => inv_eventDone.2 (inv_powerUpRestored hi)
  case debugEntry => exact fun hs _ => inv_eventDone.2 (inv_debugEntry hi hs)
  case debugExit => exact fun _ _ => inv_eventDone.2 (inv_debugExit hi)
  case traceAccessFail => exact fun _ _ => inv_eventDone.2 (inv_tick.2 (inv_traceAccessFail hi _))
  case osdlrWrite => exact fun b hs hd => inv_eventDone.2 (inv_osdlrWrite hi b hs hd)
  case corenpdrqWrite =>
    exact fun b hp => inv_eventDone.2 (inv_corenpdrqWrite hi b ((corePowered_iff s).1 hp))
  all_goals intros; exact { hi with }

/-- Settles O54: a step runs the oldest label on a state that differs in the labels offered only. -/
theorem everyStepKeepsTheInvariant : Obligations.EveryStepKeepsTheInvariant := by
  intro s t hi h
  obtain ⟨_, rest, _, -, -, hexec⟩ := step_next s t h
  exact exec_keeps_inv ((inv_withOffered rest).2 hi) hexec

end Sys2Proof.Machine
end

section
/-! PROOFS of the family 10_state.md, part 3: which steps write the stored bits (O49, O50, O52). What a
step can do to them is said once, by `exec_storedBits`; each statement follows its cases. -/

namespace Sys2Proof.Machine

/-- The record with one stored bit written (R32). -/
def Latches.put (l : Latches) (b : Sticky) (v : Bool) : Latches :=
  match b with
  | .stad => { l with stad := v }
  | .sdr => { l with sdr := v }
  | .spmad => { l with spmad := v }
  | .sdad => { l with sdad := v }
  | .sr => { l with sr := v }
  | .spd => { l with spd := v }

theorem Latches.get_put (l : Latches) (b c : Sticky) (v : Bool) :
    (l.put b v).get c = if c = b then v else l.get c := by
  cases b <;> cases c <;> rfl

theorem Latches.put_get (l : Latches) (b : Sticky) : l.put b (l.get b) = l := by
  cases b <;> rfl

/-- Writing one bit sets no other. -/
theorem Latches.put_sets {l : Latches} {b c : Sticky} {v : Bool} (h0 : l.get c = false)
    (h1 : (l.put b v).get c = true) : c = b ∧ v = true := by
  rw [Latches.get_put] at h1
  split_ifs at h1 with hcb
  · exact ⟨hcb, h1⟩
  · simp [h0] at h1

/-- Writing a bit so that it stays 1 if it was clears none. -/
theorem Latches.put_keeps {l : Latches} {b c : Sticky} {v : Bool} (hv : l.get b = true → v = true)
    (h0 : l.get c = true) : (l.put b v).get c = true := by
  rw [Latches.get_put]
  split_ifs with hcb
  · exact hv (hcb ▸ h0)
  · exact h0

/-- Everything a step from `s` to `t` with the label `i` can do to the stored bits (R51, R172). -/
inductive StoredBits (s t : State) : Instr → Prop
  | kept (i : Instr) (hst : t.st = s.st) : StoredBits s t i
  | read (acc : AccessAttr) (hp : s.env.power = .on) (hl : s.softwareLocked acc = false)
      (hst : t.st = s.latchesAfterRead acc) : StoredBits s t (.edprsrRd acc)
  | debugAccessFailed (i : Instr) (acc : AccessAttr) (denied otherCause : Bool)
      (hp : s.env.power = .on) (hacc : debugRegisterAccess i = some acc)
      (hdenied : denied = true → s.env.allowDebug.allows acc = false) (hr : t.response = .error)
      (hst : t.st = s.st.put .sdad (s.sdadAfterFailure acc denied otherCause)) :
      StoredBits s t i
  | pmuAccessFailed (ns : Bool) (hp : s.env.power = .on)
      (hst : t.st = s.st.put .spmad (s.spmadAfterFailure (s.failingAccess ns))) :
      StoredBits s t (.pmuAccessFail ns)
  | traceAccessFailed (ns : Bool) (hp : s.env.power = .on)
      (hst : t.st = s.st.put .stad (s.stadAfterFailure (s.failingAccess ns))) :
      StoredBits s t (.traceAccessFail ns)
  | debugExit (hp : s.env.power = .on) (hst : t.st = s.st.put .sdr true) :
      StoredBits s t .debugExit
  | coldReset (hp : s.env.power = .on) (hst : t.st = s.latchesColdReset) :
      StoredBits s t .coldReset
  | powerUpLost (hst : t.st = s.latchesColdReset) : StoredBits s t (.corePowerUp true)
  | warmReset (hp : s.env.power = .on) (hst : t.st = s.latchesWarmReset) :
      StoredBits s t .warmReset

variable {s t : State} {i : Instr} {acc : AccessAttr} {b : Sticky}

/-! ### The failed accesses and the read -/

/-- With the core unpowered no access error is recorded (R190 to R192). -/
theorem sdadAfterFailure_unpowered (hp : s.corePowered = false) (denied otherCause : Bool) :
    s.sdadAfterFailure acc denied otherCause = s.st.sdad := by
  simp [sdadAfterFailure_eq, hp]

theorem spmadAfterFailure_unpowered (hp : s.corePowered = false) :
    s.spmadAfterFailure acc = s.st.spmad := by
  simp [State.spmadAfterFailure, hp]

theorem stadAfterFailure_unpowered (hp : s.corePowered = false) :
    s.stadAfterFailure acc = s.st.stad := by
  simp [State.stadAfterFailure, hp]

theorem storedBits_failDebugAccess {denied : Bool} (otherCause : Bool)
    (hacc : debugRegisterAccess i = some acc)
    (hdenied : denied = true → s.env.allowDebug.allows acc = false) :
    StoredBits s (s.failDebugAccess acc denied otherCause) i := by
  cases hp : s.corePowered with
  | false => exact .kept i (by simp [sdadAfterFailure_unpowered hp])
  | true =>
    exact .debugAccessFailed i acc denied otherCause ((corePowered_iff s).1 hp) hacc hdenied rfl rfl

/-- R163: the permission that OSLAR_EL1 fails for is `AllowExternalDebugAccess()`. -/
theorem not_allows_of_oslarDenied (h : s.oslarDenied acc = true) :
    s.env.allowDebug.allows acc = false := by
  rw [oslarDenied_eq, Bool.and_eq_true, Bool.not_eq_true'] at h
  exact h.1

theorem storedBits_breakWatchAccess {n : Nat} {op : RegOp} (hi : i ∈ breakWatchRows n op acc) :
    StoredBits s (s.breakWatchAccess op acc) i := by
  obtain ⟨-, heq⟩ | ⟨-, -, heq⟩ | ⟨-, -, heq⟩ := breakWatchAccess_cases s op acc <;> rw [heq]
  · exact storedBits_failDebugAccess _ (debugRegisterAccess_of_breakWatchRow hi)
      (by simp [State.debugAllowed])
  · exact .kept i rfl
  · exact .kept i rfl

theorem storedBits_read (acc : AccessAttr) (ht : t.st = s.latchesAfterRead acc) :
    StoredBits s t (.edprsrRd acc) := by
  cases hl : s.softwareLocked acc with
  | true => exact .kept _ (ht.trans (latchesAfterRead_softwareLocked s acc hl))
  | false =>
    cases hp : s.corePowered with
    | true => exact .read acc ((corePowered_iff s).1 hp) hl ht
    | false => exact .kept _ (ht.trans (latchesAfterRead_unpowered s acc hp))

theorem storedBits_pmuAccessFail (ns : Bool)
    (ht : t.st = s.st.put .spmad (s.spmadAfterFailure (s.failingAccess ns))) :
    StoredBits s t (.pmuAccessFail ns) := by
  cases hp : s.corePowered with
  | true => exact .pmuAccessFailed ns ((corePowered_iff s).1 hp) ht
  | false => exact .kept _ (by rw [ht, spmadAfterFailure_unpowered hp]; exact s.st.put_get .spmad)

theorem storedBits_traceAccessFail (ns : Bool)
    (ht : t.st = s.st.put .stad (s.stadAfterFailure (s.failingAccess ns))) :
    StoredBits s t (.traceAccessFail ns) := by
  cases hp : s.corePowered with
  | true => exact .traceAccessFailed ns ((corePowered_iff s).1 hp) ht
  | false => exact .kept _ (by rw [ht, stadAfterFailure_unpowered hp]; exact s.st.put_get .stad)

/-- Every step is one of the cases: the labels that the statements name, and the others, which keep the
stored bits. -/
theorem exec_storedBits (h : exec i s = .next t) : StoredBits s t i := by
  apply exec_cases (P := fun i u => StoredBits s u i) (h := h)
  case read => exact fun acc _ => storedBits_read acc rfl
  case oslarFails =>
    exact fun _ _ _ => storedBits_failDebugAccess _ rfl not_allows_of_oslarDenied
  case breakWatch => exact fun _ _ _ _ hi => storedBits_breakWatchAccess hi
  case coldReset => exact fun hp => .coldReset ((corePowered_iff s).1 hp) rfl
  case warmReset => exact fun hp => .warmReset ((corePowered_iff s).1 hp) rfl
  case powerUpLost => exact fun _ => .powerUpLost rfl
  case debugExit => exact fun hp _ => .debugExit ((corePowered_iff s).1 hp) rfl
  case pmuAccessFail => exact fun ns _ => storedBits_pmuAccessFail ns rfl
  case traceAccessFail => exact fun ns _ => storedBits_traceAccessFail ns rfl
  all_goals intros; exact .kept _ rfl

/-- Settles O52: of the steps that write the stored bits only the power up happens unpowered. -/
theorem unpoweredBitsAreUntouched : Obligations.UnpoweredBitsAreUntouched := by
  intro i s t hp h hi
  cases exec_storedBits h with
  | kept _ hst => exact hst
  | powerUpLost => exact absurd rfl hi
  | read _ hon | debugAccessFailed _ _ _ _ hon | pmuAccessFailed _ hon | traceAccessFailed _ hon
  | debugExit hon | coldReset hon | warmReset hon => exact absurd hon hp

/-! ### The steps that set a bit -/

/-- R144: the one bit that a read can set is SDR, in reset state. -/
theorem clearedLatches_sets (h1 : s.clearedLatches.get b = true) (h0 : s.st.get b = false) :
    b = .sdr ∧ s.env.inReset = true := by
  cases b <;> simp_all [State.clearedLatches, Latches.get]

theorem latchesAfterRead_sets (h0 : s.st.get b = false)
    (h1 : (s.latchesAfterRead acc).get b = true) : b = .sdr ∧ s.env.inReset = true := by
  obtain h | h := latchesAfterRead_get s acc b
  · simp [h0, h1] at h
  · exact clearedLatches_sets (h.symm.trans h1) h0

/-- What must hold of a step from `s` to `t` with the label `i` that sets the bit `b` (R51, R172). -/
def SetBy (s t : State) (i : Instr) : Sticky → Prop
  | .stad => s.cfg.trbe = true ∧ s.env.power = .on ∧ i = .traceAccessFail true
  | .sdr => i = .debugExit ∨ i = .coldReset ∨ i = .warmReset ∨ i = .corePowerUp true ∨
      (s.env.inReset = true ∧ ∃ acc, i = .edprsrRd acc)
  | .spmad => s.env.power = .on ∧ ∃ ns, i = .pmuAccessFail ns
  | .sdad => s.env.power = .on ∧ t.response = .error ∧
      ∃ acc, debugRegisterAccess i = some acc ∧ s.env.allowDebug.allows acc = false
  | .sr => i = .coldReset ∨ i = .warmReset ∨ i = .corePowerUp true
  | .spd => i = .coldReset ∨ i = .corePowerUp true

/-- R180: a Cold reset leaves the three access errors 0. -/
theorem latchesColdReset_get_eq_true (h : s.latchesColdReset.get b = true) :
    b = .sdr ∨ b = .sr ∨ b = .spd := by
  cases b <;> simp_all [State.latchesColdReset, Latches.get]

/-- R181: a Warm reset can set SR and SDR. -/
theorem latchesWarmReset_sets (h0 : s.st.get b = false) (h1 : s.latchesWarmReset.get b = true) :
    b = .sdr ∨ b = .sr := by
  cases b <;> simp_all [State.latchesWarmReset, Latches.get]

/-- The steps that set a bit, by what the step did to the stored bits. -/
theorem exec_sets (h : exec i s = .next t) (h0 : s.st.get b = false) (h1 : t.st.get b = true) :
    SetBy s t i b := by
  cases exec_storedBits h with
  | kept _ hst => rw [hst, h0] at h1; cases h1
  | read acc _ _ hst =>
    rw [hst] at h1
    obtain ⟨rfl, hr⟩ := latchesAfterRead_sets h0 h1
    exact .inr (.inr (.inr (.inr ⟨hr, acc, rfl⟩)))
  | debugAccessFailed _ acc denied otherCause hp hacc hdenied hr hst =>
    rw [hst] at h1
    obtain ⟨rfl, hs⟩ := Latches.put_sets h0 h1
    exact ⟨hp, hr, acc, hacc, hdenied (sdadAfterFailure_sets s acc _ _ h0 hs).2⟩
  | pmuAccessFailed ns hp hst =>
    rw [hst] at h1
    obtain ⟨rfl, -⟩ := Latches.put_sets h0 h1
    exact ⟨hp, ns, rfl⟩
  | traceAccessFailed ns hp hst =>
    rw [hst] at h1
    obtain ⟨rfl, hs⟩ := Latches.put_sets h0 h1
    obtain ⟨ht, -, hns⟩ := stadAfterFailure_sets s (s.failingAccess ns) h0 hs
    exact ⟨ht, hp, congrArg Instr.traceAccessFail hns⟩
  | debugExit _ hst =>
    rw [hst] at h1
    obtain ⟨rfl, -⟩ := Latches.put_sets h0 h1
    exact .inl rfl
  | coldReset _ hst | powerUpLost hst =>
    rw [hst] at h1
    obtain rfl | rfl | rfl := latchesColdReset_get_eq_true h1 <;> simp [SetBy]
  | warmReset _ hst =>
    rw [hst] at h1
    obtain rfl | rfl := latchesWarmReset_sets h0 h1 <;> simp [SetBy]

/-- Settles O49, bit by bit. -/
theorem onlyTheseStepsSetAStoredBit : Obligations.OnlyTheseStepsSetAStoredBit := fun _ _ _ h =>
  ⟨exec_sets (b := .stad) h, exec_sets (b := .sdr) h, exec_sets (b := .spmad) h,
   exec_sets (b := .sdad) h, exec_sets (b := .sr) h, exec_sets (b := .spd) h⟩

/-! ### The steps that clear a bit -/

/-- R143: a read in reset state leaves SR. -/
theorem not_inReset_of_read_clears_sr (h0 : s.st.get .sr = true)
    (h1 : (s.latchesAfterRead acc).get .sr = false) : s.env.inReset = false := by
  by_contra hr
  have hkept := clearedLatches_sr_of_inReset s (by simpa using hr)
  obtain h | h := latchesAfterRead_get s acc .sr <;> simp_all

/-- R180: a Cold reset leaves SR and SPD 1. -/
theorem latchesColdReset_get_eq_false (h : s.latchesColdReset.get b = false) :
    b ≠ .sr ∧ b ≠ .spd := by
  cases b <;> simp_all [State.latchesColdReset, Latches.get]

/-- R181: of the bits that are 1 a Warm reset can clear SDR only. -/
theorem latchesWarmReset_clears (h0 : s.st.get b = true) (h1 : s.latchesWarmReset.get b = false) :
    b = .sdr := by
  cases b <;> simp_all [State.latchesWarmReset, Latches.get]

/-- Settles O50, by what the step did to the stored bits. -/
theorem onlyTheseStepsClearAStoredBit : Obligations.OnlyTheseStepsClearAStoredBit := by
  intro i s t b h h0 h1
  cases exec_storedBits h with
  | kept _ hst => rw [hst, h0] at h1; cases h1
  | read acc hp hl hst =>
    rw [hst] at h1
    refine .inl ⟨acc, rfl, hp, hl, ?_⟩
    rintro rfl
    exact not_inReset_of_read_clears_sr h0 h1
  | debugAccessFailed _ acc denied otherCause _ _ _ _ hst =>
    rw [hst, Latches.put_keeps (b := .sdad) (sdadAfterFailure_keeps s acc _ _) h0] at h1; cases h1
  | pmuAccessFailed ns _ hst =>
    rw [hst, Latches.put_keeps (b := .spmad) (spmadAfterFailure_keeps s _) h0] at h1; cases h1
  | traceAccessFailed ns _ hst =>
    rw [hst, Latches.put_keeps (b := .stad) (stadAfterFailure_keeps s _) h0] at h1; cases h1
  | debugExit _ hst => rw [hst, Latches.put_keeps (b := .sdr) (fun _ => rfl) h0] at h1; cases h1
  | coldReset _ hst =>
    rw [hst] at h1
    obtain ⟨hsr, hspd⟩ := latchesColdReset_get_eq_false h1
    exact .inr (.inl ⟨hsr, hspd, .inl rfl⟩)
  | powerUpLost hst =>
    rw [hst] at h1
    obtain ⟨hsr, hspd⟩ := latchesColdReset_get_eq_false h1
    exact .inr (.inl ⟨hsr, hspd, .inr rfl⟩)
  | warmReset _ hst =>
    rw [hst] at h1
    exact .inr (.inr ⟨latchesWarmReset_clears h0 h1, rfl⟩)

end Sys2Proof.Machine
end

section
/-! PROOFS of the family 20_memory.md: which accesses have a behaviour (R71, R73, R74, R104). Each branch
of the decoder tests a whole word or its fixed bits; the lemmas say either test by direction and offset. -/

namespace Sys2Proof

section
variable (w : BitVec 13) (data : Word) (acc : AccessAttr)

/-- Only the 4-byte accesses reach the table of R104 (R71, R74). -/
theorem decode_xdi_ok_iff (size : AccessSize) :
    (∃ i, decode (.xdi size w data acc) = .ok i) ↔
      size = .word ∧ ∃ i, decodeXdi w data acc = .ok i := by
  cases size <;> simp [decode]

/-- The words that R104 assigns: four of them alone, and the breakpoint and watchpoint rows by their
fixed bits. -/
theorem decodeXdi_ok_iff :
    (∃ i, decodeXdi w data acc = .ok i) ↔
      (w = accessWord false 0x314 ∨ w = accessWord true 0x314) ∨
      (w = accessWord true 0x300 ∨ w = accessWord true 0xFB0) ∨
      ∃ base ∈ [0x400, 0x800], ∃ k ∈ [0, 4, 8], w &&& 0x0F0F#13 = BitVec.ofNat 13 (base + k) := by
  unfold decodeXdi
  split_ifs <;> simp_all [accessWord]

/-! ### The parts of an access word -/

theorem accessOffset_toNat : (accessOffset w).toNat = w.toNat % 0x1000 := by
  simp [accessOffset]

theorem accessIsWrite_eq : accessIsWrite w = decide (0x1000 ≤ w.toNat) := by
  rw [accessIsWrite, BitVec.getLsbD, Nat.testBit_eq_decide_div_mod_eq]
  have := w.isLt
  exact decide_eq_decide.2 (by omega)

/-- An access word is its direction and its offset. -/
theorem eq_accessWord_iff (write : Bool) {offset : Nat} (h : offset < 0x1000) :
    w = accessWord write offset ↔
      accessIsWrite w = write ∧ (accessOffset w).toNat = offset := by
  rw [accessOffset_toNat, accessIsWrite_eq, ← BitVec.toNat_inj, accessWord, BitVec.toNat_ofNat]
  have := w.isLt
  cases write <;> simp <;> omega

theorem eq_accessWord_read_or_write_iff {offset : Nat} (h : offset < 0x1000) :
    (w = accessWord false offset ∨ w = accessWord true offset) ↔
      (accessOffset w).toNat = offset := by
  rw [eq_accessWord_iff w false h, eq_accessWord_iff w true h, ← or_and_right]
  simp

/-- What the mask of a breakpoint or watchpoint row keeps: bits [11:8] and [3:0] (R104). -/
theorem toNat_and_rowMask :
    (w &&& 0x0F0F#13).toNat = 0x100 * (w.toNat / 0x100 % 16) + w.toNat % 16 := by
  have hdiv : (w.toNat &&& 0x0F0F) / 2 ^ 8 = w.toNat / 2 ^ 8 % 2 ^ 4 := by
    rw [Nat.and_div_two_pow]; exact Nat.and_two_pow_sub_one_eq_mod _ 4
  have hmod : (w.toNat &&& 0x0F0F) % 2 ^ 8 = w.toNat % 2 ^ 8 % 2 ^ 4 := by
    rw [Nat.and_mod_two_pow]; exact Nat.and_two_pow_sub_one_eq_mod _ 4
  have hmask : (w &&& 0x0F0F#13).toNat = w.toNat &&& 0x0F0F := BitVec.toNat_and _ _
  omega

/-- The mask leaves the register number, bits [7:4], and the direction, bit [12], free (R104). -/
theorem and_rowMask_eq_iff {base k : Nat} (hbase : base ∈ [0x400, 0x800]) (hk : k ∈ [0, 4, 8]) :
    w &&& 0x0F0F#13 = BitVec.ofNat 13 (base + k) ↔
      ∃ n < 16, (accessOffset w).toNat = base + 16 * n + k := by
  simp only [List.mem_cons, List.not_mem_nil, or_false] at hbase hk
  rw [accessOffset_toNat, ← BitVec.toNat_inj, toNat_and_rowMask, BitVec.toNat_ofNat]
  constructor
  · intro h
    exact ⟨w.toNat / 16 % 16, by omega, by omega⟩
  · rintro ⟨n, hn, h⟩
    omega

theorem breakWatchRow_iff :
    (∃ base ∈ [0x400, 0x800], ∃ k ∈ [0, 4, 8], w &&& 0x0F0F#13 = BitVec.ofNat 13 (base + k)) ↔
      ∃ n < 16, ∃ base ∈ [0x400, 0x800], ∃ k ∈ [0, 4, 8],
        (accessOffset w).toNat = base + 16 * n + k := by
  constructor
  · rintro ⟨base, hbase, k, hk, h⟩
    obtain ⟨n, hn, h⟩ := (and_rowMask_eq_iff w hbase hk).1 h
    exact ⟨n, hn, base, hbase, k, hk, h⟩
  · rintro ⟨n, hn, base, hbase, k, hk, h⟩
    exact ⟨base, hbase, k, hk, (and_rowMask_eq_iff w hbase hk).2 ⟨n, hn, h⟩⟩

end

/-- Settles O4: the words of R104, each described by its direction and offset. -/
theorem describedAccessesByOffset : Obligations.DescribedAccessesByOffset := by
  intro size w data acc
  rw [decode_xdi_ok_iff, decodeXdi_ok_iff, breakWatchRow_iff,
    eq_accessWord_read_or_write_iff w (by norm_num), eq_accessWord_iff w true (by norm_num),
    eq_accessWord_iff w true (by norm_num), ← and_or_left]

end Sys2Proof
end

section
/-! PROOFS of the family 30_encoding.md, section 2, part 1: the access labels (R104). A register row's
word is its direction, its offset and nothing else, and the offset is the row's base plus 16 times the
register number. -/

namespace Sys2Proof

/-! ### The breakpoint and watchpoint rows, as one -/

/-- The offset of register 0 of each row that leaves the register number and the direction free. -/
def registerBases : List Nat := [0x400, 0x404, 0x408, 0x800, 0x804, 0x808]

/-- The label of the row with this base. -/
def registerInstr : Nat → Nat → RegOp → AccessAttr → Instr
  | 0x400 => .dbgbvrLo
  | 0x404 => .dbgbvrHi
  | 0x408 => .dbgbcr
  | 0x800 => .dbgwvrLo
  | 0x804 => .dbgwvrHi
  | _ => .dbgwcr

theorem mem_registerBases_iff {base : Nat} :
    base ∈ registerBases ↔
      base = 0x400 ∨ base = 0x404 ∨ base = 0x408 ∨ base = 0x800 ∨ base = 0x804 ∨ base = 0x808 := by
  simp [registerBases]

theorem encode_registerInstr {base : Nat} (hbase : base ∈ registerBases) (n : Nat) (op : RegOp)
    (acc : AccessAttr) :
    encode (registerInstr base n op acc) = encodeRegister (base + 16 * n) op acc := by
  obtain rfl | rfl | rfl | rfl | rfl | rfl := mem_registerBases_iff.1 hbase <;> rfl

theorem wellFormed_registerInstr {base : Nat} (hbase : base ∈ registerBases) (n : Nat) (op : RegOp)
    (acc : AccessAttr) :
    (registerInstr base n op acc).wellFormed = registerNumberOk n := by
  obtain rfl | rfl | rfl | rfl | rfl | rfl := mem_registerBases_iff.1 hbase <;> rfl

/-! ### The parts of an access word -/

section
variable (w : BitVec 13) (data : Word) (acc : AccessAttr)

theorem accessWord_parts (write : Bool) {offset : Nat} (h : offset < 0x1000) :
    accessIsWrite (accessWord write offset) = write ∧
      (accessOffset (accessWord write offset)).toNat = offset :=
  (eq_accessWord_iff _ write h).1 rfl

theorem accessWord_accessOffset :
    accessWord (accessIsWrite w) (accessOffset w).toNat = w :=
  ((eq_accessWord_iff w _ (accessOffset w).isLt).2 ⟨rfl, rfl⟩).symm

theorem registerNumber_eq : registerNumber w = (accessOffset w).toNat / 16 % 16 := by
  rw [registerNumber, accessOffset_toNat, BitVec.extractLsb'_toNat, Nat.shiftRight_eq_div_pow]
  omega

theorem registerNumberOk_iff (n : Nat) : registerNumberOk n = true ↔ n < 16 := by
  simp [registerNumberOk]

theorem registerNumberOk_registerNumber : registerNumberOk (registerNumber w) = true := by
  rw [registerNumberOk_iff, registerNumber_eq]
  exact Nat.mod_lt _ (by norm_num)

/-- A word of the row `base` is the one of its own register number. -/
theorem accessOffset_of_and_rowMask {base : Nat}
    (hbase : base ∈ registerBases)
    (h : w &&& 0x0F0F#13 = BitVec.ofNat 13 base) :
    (accessOffset w).toNat = base + 16 * registerNumber w := by
  rw [mem_registerBases_iff] at hbase
  rw [registerNumber_eq, accessOffset_toNat]
  rw [← BitVec.toNat_inj, toNat_and_rowMask, BitVec.toNat_ofNat] at h
  omega

/-- Encoding the direction and the data that the decoder read keeps all but a read's data. -/
theorem encodeRegister_accessOp :
    encodeRegister (accessOffset w).toNat (accessOp w data) acc =
      (Label.xdi .word w data acc).canonical := by
  have hw := accessWord_accessOffset w
  cases hwrite : accessIsWrite w <;> rw [hwrite] at hw <;>
    simp [accessOp, encodeRegister, Label.canonical, hwrite, hw]

/-- Encoding at the row and the register number that the decoder read. -/
theorem encodeRegister_registerNumber {base : Nat}
    (hbase : base ∈ registerBases)
    (h : w &&& 0x0F0F#13 = BitVec.ofNat 13 base) :
    encodeRegister (base + 16 * registerNumber w) (accessOp w data) acc =
      (Label.xdi .word w data acc).canonical := by
  rw [← accessOffset_of_and_rowMask w hbase h, encodeRegister_accessOp]

/-- The word and the data that the encoder writes for the row `base`, read back by their parts. -/
theorem exists_encodeRegister_eq {base n : Nat}
    (hbase : base ∈ registerBases) (hn : registerNumberOk n = true)
    (op : RegOp) :
    ∃ w data, encodeRegister (base + 16 * n) op acc = .xdi .word w data acc ∧
      w &&& 0x0F0F#13 = BitVec.ofNat 13 base ∧ registerNumber w = n ∧ accessOp w data = op := by
  rw [mem_registerBases_iff] at hbase
  rw [registerNumberOk_iff] at hn
  have hoff : base + 16 * n < 0x1000 := by omega
  have hrow (write : Bool) :
      accessWord write (base + 16 * n) &&& 0x0F0F#13 = BitVec.ofNat 13 base ∧
        registerNumber (accessWord write (base + 16 * n)) = n := by
    have hpart := (accessWord_parts write hoff).2
    rw [registerNumber_eq, hpart]
    rw [accessOffset_toNat] at hpart
    rw [← BitVec.toNat_inj, toNat_and_rowMask, BitVec.toNat_ofNat]
    omega
  cases op with
  | read => exact ⟨_, 0, rfl, (hrow false).1, (hrow false).2, by
      simp [accessOp, (accessWord_parts false hoff).1]⟩
  | write data => exact ⟨_, data, rfl, (hrow true).1, (hrow true).2, by
      simp [accessOp, (accessWord_parts true hoff).1]⟩

/-! ### The decoder of access words, both ways -/

/-- A word of a breakpoint or watchpoint row is none of the four words of a row of their own. -/
theorem decodeXdi_of_and_rowMask {base : Nat} (hbase : base ∈ registerBases)
    (h : w &&& 0x0F0F#13 = BitVec.ofNat 13 base) :
    decodeXdi w data acc = .ok (registerInstr base (registerNumber w) (accessOp w data) acc) := by
  have hne (v : BitVec 13) (hv : ∀ b ∈ registerBases, v &&& 0x0F0F#13 ≠ BitVec.ofNat 13 b) :
      w ≠ v := by
    rintro rfl
    exact hv base hbase h
  rw [decodeXdi, if_neg (hne _ (by decide)), if_neg (hne _ (by decide)),
    if_neg (hne _ (by decide)), if_neg (hne _ (by decide)), h]
  obtain rfl | rfl | rfl | rfl | rfl | rfl := mem_registerBases_iff.1 hbase <;> rfl

/-- What an access word decodes to: one of the four words of a row of their own, or a register row. -/
theorem decodeXdi_ok_cases {i : Instr} (h : decodeXdi w data acc = .ok i) :
    (w = 0x0314#13 ∧ i = .edprsrRd acc) ∨ (w = 0x1314#13 ∧ i = .edprsrWr data acc) ∨
    (w = 0x1300#13 ∧ i = .oslarWr data acc) ∨ (w = 0x1FB0#13 ∧ i = .edlarWr data acc) ∨
    ∃ base ∈ registerBases, w &&& 0x0F0F#13 = BitVec.ofNat 13 base ∧
      i = registerInstr base (registerNumber w) (accessOp w data) acc := by
  by_cases hrow : ∃ base ∈ registerBases, w &&& 0x0F0F#13 = BitVec.ofNat 13 base
  · obtain ⟨base, hbase, hw⟩ := hrow
    rw [decodeXdi_of_and_rowMask w data acc hbase hw, Except.ok.injEq] at h
    exact .inr (.inr (.inr (.inr ⟨base, hbase, hw, h.symm⟩)))
  · simp only [not_exists, not_and, mem_registerBases_iff, forall_eq_or_imp, forall_eq] at hrow
    simp only [decodeXdi, hrow, if_false] at h
    split_ifs at h <;> cases h <;> simp [*]

theorem encode_of_decodeXdi_ok {i : Instr} (h : decodeXdi w data acc = .ok i) :
    i.wellFormed = true ∧ encode i = (Label.xdi .word w data acc).canonical := by
  obtain ⟨rfl, rfl⟩ | ⟨rfl, rfl⟩ | ⟨rfl, rfl⟩ | ⟨rfl, rfl⟩ | ⟨base, hbase, hw, rfl⟩ :=
    decodeXdi_ok_cases w data acc h
  · exact ⟨rfl, rfl⟩
  · exact ⟨rfl, rfl⟩
  · exact ⟨rfl, rfl⟩
  · exact ⟨rfl, rfl⟩
  · rw [wellFormed_registerInstr hbase, encode_registerInstr hbase]
    exact ⟨registerNumberOk_registerNumber w, encodeRegister_registerNumber w data acc hbase hw⟩

theorem decode_encodeRegister {base n : Nat} (hbase : base ∈ registerBases)
    (hn : registerNumberOk n = true) (op : RegOp) :
    decode (encodeRegister (base + 16 * n) op acc) = .ok (registerInstr base n op acc) := by
  obtain ⟨w, data, hword, hrow, rfl, rfl⟩ := exists_encodeRegister_eq acc hbase hn op
  rw [hword, decode, decodeXdi_of_and_rowMask w data acc hbase hrow]

end

end Sys2Proof
end

section
/-! PROOFS of the family 30_encoding.md, section 2, part 2: the event labels (R105). -/

namespace Sys2Proof

section
variable (w : BitVec 16)

/-! ### The code and the argument of an event word -/

theorem eventCode_eq : eventCode w = w.toNat / 0x100 := by
  rw [eventCode, BitVec.extractLsb'_toNat, Nat.shiftRight_eq_div_pow]
  omega

theorem eventArg_toNat : (eventArg w).toNat = w.toNat % 0x100 := by
  simp [eventArg]

/-- An event word is its code and its argument. -/
theorem eventWord_eventCode_eventArg : eventWord (eventCode w) (eventArg w).toNat = .evt w := by
  rw [eventWord, eventCode_eq, eventArg_toNat, Nat.div_add_mod, BitVec.ofNat_toNat,
    BitVec.setWidth_eq]

/-- A word matches an event row when it has the row's code and no argument bit that the row fixes. -/
theorem and_eventMask_eq_iff (code : Nat) (argMask : BitVec 8) :
    w.toNat &&& (0xFF00 + argMask.toNat) = 0x100 * code ↔
      eventCode w = code ∧ eventArg w &&& argMask = 0#8 := by
  have hdiv : (w.toNat &&& (0xFF00 + argMask.toNat)) / 2 ^ 8 = w.toNat / 2 ^ 8 := by
    rw [Nat.and_div_two_pow, show (0xFF00 + argMask.toNat) / 2 ^ 8 = 2 ^ 8 - 1 by omega,
      Nat.and_two_pow_sub_one_eq_mod]
    omega
  have hmod : (w.toNat &&& (0xFF00 + argMask.toNat)) % 2 ^ 8 = (eventArg w &&& argMask).toNat := by
    rw [Nat.and_mod_two_pow, BitVec.toNat_and, eventArg_toNat,
      show (0xFF00 + argMask.toNat) % 2 ^ 8 = argMask.toNat by omega]
  rw [eventCode_eq, ← BitVec.toNat_inj, BitVec.toNat_zero]
  omega

/-- The word the encoder makes has the code and the argument it was made from. -/
theorem eventWord_parts {code arg : Nat} (hcode : code < 0x100) (harg : arg < 0x100) :
    eventCode (BitVec.ofNat 16 (0x100 * code + arg)) = code ∧
      eventArg (BitVec.ofNat 16 (0x100 * code + arg)) = BitVec.ofNat 8 arg := by
  rw [eventCode_eq, ← BitVec.toNat_inj, eventArg_toNat, BitVec.toNat_ofNat, BitVec.toNat_ofNat]
  omega

end

/-! ### The three kinds of argument -/

section
variable {arg : BitVec 8}

theorem noArg_eq_ok_iff {i j : Instr} : noArg arg i = .ok j ↔ arg = 0#8 ∧ j = i := by
  unfold noArg
  split_ifs with h
  · simp [h, eq_comm]
  · simp [h]

theorem and_bitMask_eq_zero_iff : arg &&& 0xFE#8 = 0#8 ↔ arg.toNat = (arg.getLsbD 0).toNat := by
  have hdiv : (arg.toNat &&& 0xFE) / 2 ^ 1 = arg.toNat / 2 ^ 1 % 2 ^ 7 := by
    rw [Nat.and_div_two_pow]; exact Nat.and_two_pow_sub_one_eq_mod _ 7
  have hmod : (arg.toNat &&& 0xFE) % 2 ^ 1 = 0 := by
    rw [Nat.and_mod_two_pow]; exact Nat.and_zero _
  have hand : (arg &&& 0xFE#8).toNat = arg.toNat &&& 0xFE := BitVec.toNat_and _ _
  rw [← BitVec.toNat_inj, BitVec.getLsbD, Nat.toNat_testBit, BitVec.toNat_zero]
  omega

theorem toNat_of_bitArg_eq_ok {f : Bool → Instr} {j : Instr} (h : bitArg arg f = .ok j) :
    ∃ b : Bool, arg.toNat = b.toNat ∧ j = f b := by
  unfold bitArg at h
  split_ifs at h with harg
  exact ⟨_, and_bitMask_eq_zero_iff.1 harg, (Except.ok.inj h).symm⟩

theorem AuthBits.toArg_lt (m : AuthBits) : m.toArg < 0x40 := by
  have := m.traceS.toNat_lt
  have := m.traceNs.toNat_lt
  have := m.pmuS.toNat_lt
  have := m.pmuNs.toNat_lt
  have := m.dbgS.toNat_lt
  have := m.dbgNs.toNat_lt
  unfold AuthBits.toArg
  omega

/-- An argument is its six bits and its two reserved ones. -/
theorem toArg_authArg : (authArg arg).toArg = arg.toNat % 0x40 := by
  simp only [AuthBits.toArg, authArg, BitVec.getLsbD, Nat.toNat_testBit]
  omega

theorem and_authMask_eq_zero_iff : arg &&& 0xC0#8 = 0#8 ↔ arg.toNat < 0x40 := by
  have hdiv : (arg.toNat &&& 0xC0) / 2 ^ 6 = arg.toNat / 2 ^ 6 % 2 ^ 2 := by
    rw [Nat.and_div_two_pow]; exact Nat.and_two_pow_sub_one_eq_mod _ 2
  have hmod : (arg.toNat &&& 0xC0) % 2 ^ 6 = 0 := by
    rw [Nat.and_mod_two_pow]; exact Nat.and_zero _
  have hand : (arg &&& 0xC0#8).toNat = arg.toNat &&& 0xC0 := BitVec.toNat_and _ _
  rw [← BitVec.toNat_inj, BitVec.toNat_zero]
  omega

theorem authArg_ofNat_toArg (m : AuthBits) : authArg (BitVec.ofNat 8 m.toArg) = m := by
  have hbits : ∀ ts tn ps pn ds dn : Bool,
      authArg (BitVec.ofNat 8 (AuthBits.toArg ⟨ts, tn, ps, pn, ds, dn⟩)) =
        ⟨ts, tn, ps, pn, ds, dn⟩ := by decide
  exact hbits _ _ _ _ _ _

end

/-! ### The decoder of event words, both ways -/

section
variable {w : BitVec 16} {j : Instr}

theorem encode_of_noArg {i : Instr}
    (hi : i.wellFormed = true ∧ encode i = eventWord (eventCode w) 0)
    (h : noArg (eventArg w) i = .ok j) : j.wellFormed = true ∧ encode j = .evt w := by
  obtain ⟨harg, rfl⟩ := noArg_eq_ok_iff.1 h
  rw [← eventWord_eventCode_eventArg w, harg]
  exact hi

theorem encode_of_bitArg {f : Bool → Instr}
    (hf : ∀ b, (f b).wellFormed = true ∧ encode (f b) = eventWord (eventCode w) b.toNat)
    (h : bitArg (eventArg w) f = .ok j) : j.wellFormed = true ∧ encode j = .evt w := by
  obtain ⟨b, harg, rfl⟩ := toNat_of_bitArg_eq_ok h
  rw [← eventWord_eventCode_eventArg w, harg]
  exact hf b

theorem encode_authChange_authArg (hcode : eventCode w = 0x0F)
    (harg : eventArg w &&& 0xC0#8 = 0#8) : encode (.authChange (authArg (eventArg w))) = .evt w := by
  have hlt := and_authMask_eq_zero_iff.1 harg
  rw [encode, toArg_authArg, Nat.mod_eq_of_lt hlt, ← hcode, eventWord_eventCode_eventArg]

theorem encode_of_decodeEvt_ok (h : decodeEvt w = .ok j) :
    j.wellFormed = true ∧ encode j = .evt w := by
  simp only [decodeEvt] at h
  split at h
  case h_5 hcode => -- CORE_POWER_DOWN, whose argument is a `DownTo`
    exact encode_of_bitArg (fun b => by rw [hcode]; cases b <;> exact ⟨rfl, rfl⟩) h
  case h_14 hcode => -- AUTH_CHANGE
    split_ifs at h with harg
    obtain rfl := Except.ok.inj h
    exact ⟨rfl, encode_authChange_authArg hcode harg⟩
  case h_16 => -- no code of R105
    cases h
  case h_1 hcode | h_2 hcode | h_3 hcode | h_4 hcode | h_7 hcode | h_8 hcode =>
    exact encode_of_noArg (by rw [hcode]; exact ⟨rfl, rfl⟩) h
  all_goals
    rename_i hcode
    exact encode_of_bitArg (fun b => by rw [hcode]; exact ⟨rfl, rfl⟩) h

theorem decode_encode_authChange (m : AuthBits) :
    decode (encode (.authChange m)) = .ok (.authChange m) := by
  have hlt : m.toArg < 0x100 := m.toArg_lt.trans (by norm_num)
  obtain ⟨hcode, harg⟩ := eventWord_parts (code := 0x0F) (by norm_num) hlt
  have hres : BitVec.ofNat 8 m.toArg &&& 0xC0#8 = 0#8 := by
    rw [and_authMask_eq_zero_iff, BitVec.toNat_ofNat, Nat.mod_eq_of_lt hlt]
    exact m.toArg_lt
  simp only [encode, eventWord, decode, decodeEvt, hcode, harg, hres, authArg_ofNat_toArg, if_true]

end

end Sys2Proof
end

section
/-! PROOFS of the family 30_encoding.md, section 2, part 3: the decoder and the encoder are inverse, and
the decoder follows the opcode table (O1, O2, O3, O5). -/

namespace Sys2Proof

/-! ### The decoder and the encoder -/

theorem decode_encode (i : Instr) (h : i.wellFormed = true) : decode (encode i) = .ok i := by
  cases i with
  | dbgbvrLo n op acc => exact decode_encodeRegister acc (base := 0x400) (by decide) h op
  | dbgbvrHi n op acc => exact decode_encodeRegister acc (base := 0x404) (by decide) h op
  | dbgbcr n op acc => exact decode_encodeRegister acc (base := 0x408) (by decide) h op
  | dbgwvrLo n op acc => exact decode_encodeRegister acc (base := 0x800) (by decide) h op
  | dbgwvrHi n op acc => exact decode_encodeRegister acc (base := 0x804) (by decide) h op
  | dbgwcr n op acc => exact decode_encodeRegister acc (base := 0x808) (by decide) h op
  | corePowerDown k => cases k <;> rfl
  | corePowerUp b | pmuAccessFail b | traceAccessFail b | oslockSw b | osdlrWrite b
  | corenpdrqWrite b | tracePower b => cases b <;> rfl
  | authChange m => exact decode_encode_authChange m
  | edprsrRd | edprsrWr | oslarWr | edlarWr | coldReset | warmReset | resetRelease
  | extDebugReset | debugEntry | debugExit => rfl

/-- Settles O1, label by label: the six register rows by one argument over their bases. -/
theorem decodeOfEncodeIsTheInstruction : Obligations.DecodeOfEncodeIsTheInstruction :=
  decode_encode

/-- Only the 4-byte accesses and the events can decode (R71, R106). -/
theorem decode_ok_cases {l : Label} {i : Instr} (h : decode l = .ok i) :
    (∃ w data acc, l = .xdi .word w data acc ∧ decodeXdi w data acc = .ok i) ∨
    ∃ w, l = .evt w ∧ decodeEvt w = .ok i := by
  cases l with
  | xdi size w data acc =>
    cases size with
    | word => exact .inl ⟨w, data, acc, rfl, h⟩
    | byte | halfword | doubleword => cases h
  | evt w => exact .inr ⟨w, rfl, h⟩

/-- Settles O2, by the two formats of a label that decodes. -/
theorem decodedLabelEncodesBack : Obligations.DecodedLabelEncodesBack := by
  intro l i h
  obtain ⟨w, data, acc, rfl, h⟩ | ⟨w, rfl, h⟩ := decode_ok_cases h
  · exact encode_of_decodeXdi_ok w data acc h
  · exact encode_of_decodeEvt_ok h

/-! ### The opcode table -/

/-- The family EncodesIntoItsRow, over every label. -/
theorem matchingRows_encode (i : Instr) : Laws.EncodesIntoItsRow.Statement i := by
  cases i with
  | edprsrRd => exact Laws.EncodesIntoItsRow.edprsrRd _
  | edprsrWr => exact Laws.EncodesIntoItsRow.edprsrWr _ _
  | oslarWr => exact Laws.EncodesIntoItsRow.oslarWr _ _
  | edlarWr => exact Laws.EncodesIntoItsRow.edlarWr _ _
  | dbgbvrLo => exact Laws.EncodesIntoItsRow.dbgbvrLo _ _ _
  | dbgbvrHi => exact Laws.EncodesIntoItsRow.dbgbvrHi _ _ _
  | dbgbcr => exact Laws.EncodesIntoItsRow.dbgbcr _ _ _
  | dbgwvrLo => exact Laws.EncodesIntoItsRow.dbgwvrLo _ _ _
  | dbgwvrHi => exact Laws.EncodesIntoItsRow.dbgwvrHi _ _ _
  | dbgwcr => exact Laws.EncodesIntoItsRow.dbgwcr _ _ _
  | coldReset => exact Laws.EncodesIntoItsRow.coldReset
  | warmReset => exact Laws.EncodesIntoItsRow.warmReset
  | resetRelease => exact Laws.EncodesIntoItsRow.resetRelease
  | extDebugReset => exact Laws.EncodesIntoItsRow.extDebugReset
  | corePowerDown => exact Laws.EncodesIntoItsRow.corePowerDown _
  | corePowerUp => exact Laws.EncodesIntoItsRow.corePowerUp _
  | debugEntry => exact Laws.EncodesIntoItsRow.debugEntry
  | debugExit => exact Laws.EncodesIntoItsRow.debugExit
  | pmuAccessFail => exact Laws.EncodesIntoItsRow.pmuAccessFail _
  | traceAccessFail => exact Laws.EncodesIntoItsRow.traceAccessFail _
  | oslockSw => exact Laws.EncodesIntoItsRow.oslockSw _
  | osdlrWrite => exact Laws.EncodesIntoItsRow.osdlrWrite _
  | corenpdrqWrite => exact Laws.EncodesIntoItsRow.corenpdrqWrite _
  | authChange => exact Laws.EncodesIntoItsRow.authChange _
  | tracePower => exact Laws.EncodesIntoItsRow.tracePower _

/-- The data word is no part of the opcode. -/
theorem matchingRows_canonical (l : Label) : l.canonical.matchingRows = l.matchingRows := by
  cases l <;> rfl

/-- A label that decodes matches its instruction's row and no other: its word is that of the encoding. -/
theorem matchingRows_of_decode_ok {l : Label} {i : Instr} (h : decode l = .ok i) :
    l.matchingRows.map OpcodeRow.mnemonic = [i.mnemonic] := by
  obtain ⟨hwf, henc⟩ := decodedLabelEncodesBack l i h
  rw [← matchingRows_canonical, ← henc]
  exact matchingRows_encode i hwf

theorem size_of_decode_ok {size : AccessSize} {w : BitVec 13} {data : Word} {acc : AccessAttr}
    {i : Instr} (h : decode (.xdi size w data acc) = .ok i) : size = .word :=
  ((decode_xdi_ok_iff w data acc size).1 ⟨i, h⟩).1

/-- A row of R104 fixes the whole word, or is a breakpoint or watchpoint row. -/
theorem xdiRows_cases : ∀ row ∈ xdiRows,
    (row.mask = 0x1FFF ∧ row.pattern ∈ [0x314, 0x1314, 0x1300, 0x1FB0]) ∨
    (row.mask = 0x0F0F ∧ row.pattern ∈ registerBases) := by
  decide

theorem decodeXdi_of_row {w : BitVec 13} (data : Word) (acc : AccessAttr) {row : OpcodeRow}
    (hrow : row ∈ xdiRows) (hmatch : w.toNat &&& row.mask = row.pattern) :
    ∃ i, decodeXdi w data acc = .ok i := by
  have hand : w &&& BitVec.ofNat 13 row.mask = BitVec.ofNat 13 row.pattern := by
    rw [← hmatch, BitVec.ofNat_and, BitVec.ofNat_toNat, BitVec.setWidth_eq]
  obtain ⟨hmask, hpattern⟩ | ⟨hmask, hbase⟩ := xdiRows_cases row hrow
  · have hall : w &&& BitVec.ofNat 13 row.mask = w := by
      rw [hmask]; exact BitVec.and_allOnes
    rw [← hall, hand]
    simp only [List.mem_cons, List.not_mem_nil, or_false] at hpattern
    obtain hp | hp | hp | hp := hpattern <;> rw [hp] <;> exact ⟨_, rfl⟩
  · rw [hmask] at hand
    exact ⟨_, decodeXdi_of_and_rowMask w data acc hbase hand⟩

/-- The argument bits that the row of an event code fixes to 0 (R105). -/
def eventArgMask : Nat → Option (BitVec 8)
  | 0x01 | 0x02 | 0x03 | 0x04 | 0x07 | 0x08 => some 0xFF#8
  | 0x05 | 0x06 | 0x0A | 0x0B | 0x0C | 0x0D | 0x0E | 0x10 => some 0xFE#8
  | 0x0F => some 0xC0#8
  | _ => none

/-- A row of R105 fixes the code, and the argument bits of that code. -/
theorem evtRows_spec : ∀ row ∈ evtRows, ∃ argMask ∈ eventArgMask (row.pattern / 0x100),
    row.mask = 0xFF00 + argMask.toNat ∧ row.pattern = 0x100 * (row.pattern / 0x100) := by
  decide

theorem exists_noArg_eq_ok {arg : BitVec 8} (h : arg &&& 0xFF#8 = 0#8) (i : Instr) :
    ∃ j, noArg arg i = .ok j :=
  ⟨i, noArg_eq_ok_iff.2 ⟨BitVec.and_allOnes.symm.trans h, rfl⟩⟩

theorem exists_bitArg_eq_ok {arg : BitVec 8} (h : arg &&& 0xFE#8 = 0#8) (f : Bool → Instr) :
    ∃ j, bitArg arg f = .ok j :=
  ⟨_, if_pos h⟩

theorem decodeEvt_of_eventArgMask {w : BitVec 16} {argMask : BitVec 8}
    (hmask : eventArgMask (eventCode w) = some argMask) (harg : eventArg w &&& argMask = 0#8) :
    ∃ i, decodeEvt w = .ok i := by
  simp only [decodeEvt]
  split
  case h_14 hcode => -- AUTH_CHANGE
    rw [hcode] at hmask
    obtain rfl := Option.some.inj hmask
    exact ⟨_, if_pos harg⟩
  case h_16 => -- no code of R105
    simp [eventArgMask] at hmask
  case h_1 hcode | h_2 hcode | h_3 hcode | h_4 hcode | h_7 hcode | h_8 hcode =>
    rw [hcode] at hmask
    obtain rfl := Option.some.inj hmask
    exact exists_noArg_eq_ok harg _
  all_goals
    rename_i hcode
    rw [hcode] at hmask
    obtain rfl := Option.some.inj hmask
    exact exists_bitArg_eq_ok harg _

theorem decodeEvt_of_row {w : BitVec 16} {row : OpcodeRow} (hrow : row ∈ evtRows)
    (hmatch : w.toNat &&& row.mask = row.pattern) : ∃ i, decodeEvt w = .ok i := by
  obtain ⟨argMask, hcode, hmask, hpattern⟩ := evtRows_spec row hrow
  rw [hmask, hpattern, and_eventMask_eq_iff] at hmatch
  obtain ⟨hword, harg⟩ := hmatch
  exact decodeEvt_of_eventArgMask (hword ▸ hcode) harg

/-- Settles O3: a label that decodes has the word of an encoding, and a word that matches a row
decodes. -/
theorem decoderFollowsTheOpcodeTable : Obligations.DecoderFollowsTheOpcodeTable := by
  refine ⟨fun l i h => ⟨matchingRows_of_decode_ok h, ?_⟩, ?_, ?_⟩
  · rintro size w data acc rfl
    exact size_of_decode_ok h
  · intro w data acc why h
    refine List.filter_eq_nil_iff.2 fun row hrow hmatch => ?_
    obtain ⟨i, hi⟩ := decodeXdi_of_row data acc hrow (beq_iff_eq.1 hmatch)
    cases hi.symm.trans h
  · intro w why h
    refine List.filter_eq_nil_iff.2 fun row hrow hmatch => ?_
    obtain ⟨i, hi⟩ := decodeEvt_of_row hrow (beq_iff_eq.1 hmatch)
    cases hi.symm.trans h

/-- Settles O5, by evaluating the decoder on each word. -/
theorem fewWordsDecode : Obligations.FewWordsDecode :=
  fun _ => ⟨rfl, rfl, rfl, rfl, rfl, rfl⟩

end Sys2Proof
end

section
/-! PROOFS of the family 40_read_access.md, part 1: the bit that a read returns in each field (R124 to
R138), by what hides it. The eight fields that ask `U_A` share two lemmas; the other six have a lemma
for each row of the table of R139 in which they differ. -/

namespace Sys2Proof.Machine

variable {s : State} {acc : AccessAttr} {f : Field}

/-! ### A permitted read, field by field -/

theorem exists_read (h : s.cfg.haveDopd = false ∨ s.env.power = .on) :
    ∃ t, exec (.edprsrRd acc) s = .next t ∧ ∀ f, t.response.field? f = some (s.fieldBit acc f) :=
  ⟨_, exec_edprsrRd_permitted acc s h, field?_readValue s acc⟩

/-- A permitted read returns a bit in every field, as soon as the field rules give that bit. -/
theorem exists_read_of_fieldBit {bit : Field → Bool}
    (h : s.cfg.haveDopd = false ∨ s.env.power = .on) (hbit : ∀ f, s.fieldBit acc f = bit f) :
    ∃ t, exec (.edprsrRd acc) s = .next t ∧ ∀ f, t.response.field? f = some (bit f) :=
  (funext hbit : s.fieldBit acc = bit) ▸ exists_read h

/-! ### What hides a field -/

theorem unknownC_eq_false_iff :
    s.unknownC = false ↔ s.env.power = .on ∧ s.doubleLocked = false := by
  simp [State.unknownC, corePowered_iff]

theorem unknownC_of_unpowered (hp : s.env.power ≠ .on) : s.unknownC = true := by
  simp [State.unknownC, (corePowered_eq_false s).2 hp]

theorem unknownC_of_doubleLocked (hd : s.doubleLocked = true) : s.unknownC = true := by
  simp [State.unknownC, hd]

theorem unknownA_eq : s.unknownA = (s.unknownC || s.env.inReset) := rfl

theorem unknownB_eq : s.unknownB = (s.unknownA || s.env.oslk) := by
  simp only [State.unknownB, State.unknownA, State.osLocked]
  ac_rfl

/-- A bit that a read returns is the determined one, or this read's draw (R122). -/
theorem fieldBit_of_known {b : Bool} (h : s.fieldView acc f = .known b) : s.fieldBit acc f = b := by
  rw [State.fieldBit, h]; rfl

theorem fieldBit_of_unknownIf {u b : Bool} (h : s.fieldView acc f = unknownIf u b) :
    s.fieldBit acc f = if u then Config.drawBit s.draws (.read f) else b := by
  rw [State.fieldBit, h]; cases u <;> rfl

/-! ### The fields that ask `U_A` -/

/-- Does the field's rule ask `U_A` (R124 to R131, R133)? -/
def asksUnknownA : Field → Bool
  | .stad | .etad | .sdr | .spmad | .epmad | .sdad | .edad | .oslk => true
  | .dlk | .halted | .sr | .r | .spd | .pu => false

/-- The bit of such a field where `U_A` holds: a draw, but for the RES0 fields without TRBE. -/
def State.hiddenBit (s : State) : Field → Bool
  | .stad => s.cfg.trbe && Config.drawBit s.draws (.read .stad)
  | .etad => s.cfg.trbe && Config.drawBit s.draws (.read .etad)
  | f => Config.drawBit s.draws (.read f)

/-- The fields that the OS Lock hides, and only before ARMv8.4-Debug (R127 to R131). -/
def State.osLockHides (s : State) (f : Field) : Bool :=
  !s.cfg.v84 && s.env.oslk &&
    match f with
    | .spmad | .epmad => true
    | .sdad | .edad => !s.cfg.oslarErrOnEdad
    | _ => false

theorem osLockHides_of_readable (h : s.env.oslk = false ∨ s.cfg.v84 = true) (f : Field) :
    s.osLockHides f = false := by
  obtain h | h := h <;> simp [State.osLockHides, h]

theorem osLockHides_iff_of_locked (ho : s.env.oslk = true) (hv : s.cfg.v84 = false) (f : Field) :
    s.osLockHides f = true ↔
      f = .spmad ∨ f = .epmad ∨ (s.cfg.oslarErrOnEdad = false ∧ (f = .sdad ∨ f = .edad)) := by
  cases f <;> simp [State.osLockHides, ho, hv]

/-- Without TRBE the two trace fields are RES0 (R124, R125). -/
def State.res0WithoutTrbe (s : State) : Field → Bool
  | .stad | .etad => !s.cfg.trbe
  | _ => false

theorem fieldView_of_res0WithoutTrbe (h : s.res0WithoutTrbe f = true) :
    s.fieldView acc f = .known false := by
  cases f with
  | stad =>
    have ht : s.cfg.trbe = false := by simpa [State.res0WithoutTrbe] using h
    simp [State.fieldView, State.stadView, ht]
  | etad =>
    have ht : s.cfg.trbe = false := by simpa [State.res0WithoutTrbe] using h
    simp [State.fieldView, State.etadView, ht]
  | sdr | spmad | epmad | sdad | edad | dlk | oslk | halted | sr | r | spd | pu => cases h

/-- The rule of each of the eight fields in one form: UNKNOWN under `U_A`, unless RES0, or under the
field's OS Lock term; otherwise the fact. -/
theorem fieldView_of_asksUnknownA (hf : asksUnknownA f = true) :
    s.fieldView acc f =
      unknownIf ((s.unknownA && !s.res0WithoutTrbe f) || s.osLockHides f) (s.fieldFact acc f) := by
  cases f with
  | stad =>
    cases ht : s.cfg.trbe <;>
      simp [State.fieldView, State.stadView, State.res0WithoutTrbe, State.osLockHides,
        State.fieldFact, ht]
  | etad =>
    cases ht : s.cfg.trbe <;>
      simp [State.fieldView, State.etadView, State.res0WithoutTrbe, State.osLockHides,
        State.fieldFact, State.traceAllowed, ht]
  | sdr =>
    simp [State.fieldView, State.sdrView, State.res0WithoutTrbe, State.osLockHides, State.fieldFact]
  | spmad =>
    cases hv : s.cfg.v84 <;>
      simp [State.fieldView, State.spmadView, State.res0WithoutTrbe, State.osLockHides,
        State.fieldFact, unknownB_eq, hv]
  | epmad =>
    cases hv : s.cfg.v84 <;>
      simp [State.fieldView, State.epmadView, State.res0WithoutTrbe, State.osLockHides,
        State.fieldFact, State.pmuAllowed, unknownB_eq, hv]
  | sdad =>
    simp [State.fieldView, State.sdadView, State.res0WithoutTrbe, State.osLockHides, State.fieldFact,
      State.unknownOslar, State.osLocked]
  | edad =>
    simp [State.fieldView, State.edadView, State.res0WithoutTrbe, State.osLockHides, State.fieldFact,
      State.debugAllowed, State.unknownOslar, State.osLocked]
  | oslk =>
    simp [State.fieldView, State.oslkView, State.res0WithoutTrbe, State.osLockHides, State.fieldFact]
  | dlk | halted | sr | r | spd | pu => cases hf

/-- Where `U_A` does not hold only the OS Lock hides one of the eight fields. -/
theorem fieldBit_of_not_unknownA (hA : s.unknownA = false) (hf : asksUnknownA f = true) :
    s.fieldBit acc f =
      if s.osLockHides f then Config.drawBit s.draws (.read f) else s.fieldFact acc f := by
  rw [fieldBit_of_unknownIf (fieldView_of_asksUnknownA hf), hA, Bool.false_and, Bool.false_or]

theorem fieldBit_of_unknownA (hA : s.unknownA = true) (hf : asksUnknownA f = true) :
    s.fieldBit acc f = s.hiddenBit f := by
  rw [fieldBit_of_unknownIf (fieldView_of_asksUnknownA hf), hA]
  cases f with
  | stad | etad =>
    cases ht : s.cfg.trbe <;>
      simp [State.res0WithoutTrbe, State.osLockHides, State.hiddenBit, State.fieldFact, ht]
  | sdr | spmad | epmad | sdad | edad | oslk => rfl
  | dlk | halted | sr | r | spd | pu => cases hf

/-! ### HALTED, SR and R (R134 to R136) -/

theorem fieldBit_halted :
    s.fieldBit acc .halted =
      if s.env.power = .on then s.env.halted else Config.drawBit s.draws (.read .halted) := by
  rw [fieldBit_of_unknownIf rfl]
  simp only [← corePowered_iff]
  cases s.corePowered <;> rfl

theorem fieldBit_sr :
    s.fieldBit acc .sr =
      if s.unknownC then Config.drawBit s.draws (.read .sr) else s.st.sr :=
  fieldBit_of_unknownIf rfl

theorem fieldBit_r :
    s.fieldBit acc .r =
      if s.unknownC || s.inDoubleLockedReset then Config.drawBit s.draws (.read .r)
      else s.env.inReset := by
  cases hC : s.unknownC <;> cases hR : s.inDoubleLockedReset <;>
    simp [State.fieldBit, State.fieldView, State.rView, State.draw, hC, hR]

/-! ### DLK (R132) -/

/-- DLK is RES0 with ARMv8.4-Debug and without the Double Lock. -/
theorem fieldView_dlk_of_res0 (h : s.cfg.v84 = true ∨ s.cfg.doubleLock = false) :
    s.fieldView acc .dlk = .known false := by
  obtain h | h := h <;> simp [State.fieldView, State.dlkView, h]

theorem fieldView_dlk_of_unlocked (hp : s.env.power = .on) (hd : s.doubleLocked = false) :
    s.fieldView acc .dlk = .known false := by
  simp [State.fieldView, State.dlkView, (corePowered_iff s).2 hp, hd]

theorem fieldBit_dlk_of_unpowered (hp : s.env.power ≠ .on) :
    s.fieldBit acc .dlk =
      (!s.cfg.v84 && s.cfg.doubleLock && Config.drawBit s.draws (.read .dlk)) := by
  cases hv : s.cfg.v84 <;> cases hl : s.cfg.doubleLock <;>
    simp [State.fieldBit, State.fieldView, State.dlkView, State.draw,
      (corePowered_eq_false s).2 hp, hv, hl]

theorem fieldBit_dlk_of_doubleLocked (hp : s.env.power = .on) (hd : s.doubleLocked = true) :
    s.fieldBit acc .dlk =
      (!s.cfg.v84 && ((!s.cfg.v82 && s.cfg.choiceA) || Config.drawBit s.draws (.read .dlk))) := by
  have hl := ((doubleLocked_iff s).1 hd).1
  cases hv : s.cfg.v84 <;> cases hw : s.cfg.v82 <;> cases hc : s.cfg.choiceA <;>
    simp [State.fieldBit, State.fieldView, State.dlkView, State.draw,
      (corePowered_iff s).2 hp, hd, hl, hv, hw, hc]

/-! ### SPD (R137) -/

theorem fieldBit_spd_of_unpowered (hp : s.env.power ≠ .on) :
    s.fieldBit acc .spd = if s.env.power = .off then s.cfg.spdPowerdown else s.cfg.spdLowPower := by
  cases h : s.env.power with
  | on => exact absurd h hp
  | lowPower | off => simp [State.fieldBit, State.fieldView, State.spdView, h]

theorem fieldView_spd_of_unlocked (hp : s.env.power = .on) (hd : s.doubleLocked = false) :
    s.fieldView acc .spd = .known s.st.spd := by
  simp [State.fieldView, State.spdView, hp, hd]

theorem fieldBit_spd_of_doubleLocked (hp : s.env.power = .on) (hd : s.doubleLocked = true) :
    s.fieldBit acc .spd =
      (!s.cfg.v82 && s.cfg.choiceA && Config.drawBit s.draws (.read .spd)) := by
  cases hw : s.cfg.v82 <;> cases hc : s.cfg.choiceA <;>
    simp [State.fieldBit, State.fieldView, State.spdView, State.draw, hp, hd, hw, hc]

/-! ### PU (R138) -/

theorem fieldBit_pu_of_unpowered (hp : s.env.power ≠ .on) :
    s.fieldBit acc .pu = s.cfg.haveDopd := by
  cases hh : s.cfg.haveDopd <;>
    simp [State.fieldBit, State.fieldView, State.puView, (corePowered_eq_false s).2 hp, hh]

theorem fieldBit_pu_of_unlocked (hp : s.env.power = .on) (hd : s.doubleLocked = false) :
    s.fieldBit acc .pu =
      if s.inDoubleLockedReset && !s.cfg.haveDopd then Config.drawBit s.draws (.read .pu)
      else true := by
  cases hh : s.cfg.haveDopd <;> cases hR : s.inDoubleLockedReset <;>
    simp [State.fieldBit, State.fieldView, State.puView, State.draw, (corePowered_iff s).2 hp, hd,
      hh, hR]

theorem fieldBit_pu_of_doubleLocked (hp : s.env.power = .on) (hr : s.env.inReset = false)
    (hd : s.doubleLocked = true) :
    s.fieldBit acc .pu = (s.cfg.haveDopd || (!s.cfg.v82 && s.cfg.choiceA)) := by
  cases hh : s.cfg.haveDopd <;> cases hw : s.cfg.v82 <;>
    simp [State.fieldBit, State.fieldView, State.puView, State.inDoubleLockedReset,
      (corePowered_iff s).2 hp, hr, hd, hh, hw]

end Sys2Proof.Machine
end

section
/-! PROOFS of the family 40_read_access.md, part 2: whether a read answers (O11) and what it leaves (O12 to
O14). The equations of a permitted and of a failed read are the model's laws; what the statements add is
the value of the stored bits after it. -/

namespace Sys2Proof.Machine

variable {s : State} {acc : AccessAttr}

/-- Settles O11, by the two equations of the read. -/
theorem readFailsOnlyUnpoweredWithDopd : Obligations.ReadFailsOnlyUnpoweredWithDopd := fun acc s =>
  ⟨exec_edprsrRd_fails acc s, fun h => ⟨_, _, exec_edprsrRd_permitted acc s h⟩⟩

/-! ### The cleared bits (R141, R144) -/

theorem clearedLatches_of_running (hr : s.env.inReset = false) :
    s.clearedLatches =
      { stad := false, sdr := false, spmad := false, sdad := false, sr := false, spd := false } := by
  simp [State.clearedLatches, hr]

theorem clearedLatches_get_of_running (hr : s.env.inReset = false) (b : Sticky) :
    s.clearedLatches.get b = false := by
  rw [clearedLatches_of_running hr]
  cases b <;> rfl

theorem clearedLatches_of_inReset (hr : s.env.inReset = true) :
    s.clearedLatches =
      { stad := false, sdr := Config.drawBit s.draws .sdrReadInReset, spmad := false, sdad := false,
        sr := s.st.sr, spd := false } := by
  simp [State.clearedLatches, State.draw, hr]

/-- With the core powered and neither lock in the way a read leaves the cleared bits. -/
theorem exec_edprsrRd_clears (hp : s.env.power = .on) (hd : s.doubleLocked = false)
    (hs : s.softwareLocked acc = false) :
    exec (.edprsrRd acc) s =
      .next { s with st := s.clearedLatches, response := .value (s.readValue acc),
                     draws := s.draws + 1 } := by
  rw [exec_edprsrRd_permitted acc s (.inr hp),
    latchesAfterRead_unlocked s acc hs ((corePowered_iff s).2 hp) hd]

/-- Settles O12: the read leaves the cleared bits, and SDR and SR among them depend on reset state. -/
theorem readClearsTheStickyBits : Obligations.ReadClearsTheStickyBits := by
  intro acc s hp hd hs
  rw [exec_edprsrRd_clears hp hd hs]
  exact ⟨fun hr => ⟨_, by rw [clearedLatches_of_running hr]⟩,
    fun hr => ⟨_, by rw [clearedLatches_of_inReset hr]⟩⟩

/-! ### The two locks (R140, R142) -/

/-- Settles O13: clearing makes every bit 0, so a bit that is 1 after the read was kept. -/
theorem doubleLockedReadClearsOrKeepsEachBit : Obligations.DoubleLockedReadClearsOrKeepsEachBit := by
  intro acc s hp hr hd hs
  refine ⟨_, exec_edprsrRd_permitted acc s (.inr hp), rfl, rfl, fun b => ?_⟩
  have hb := latchesAfterRead_doubleLocked s acc b hs ((corePowered_iff s).2 hp) hd
  rw [clearedLatches_get_of_running hr b] at hb
  cases hk : Config.drawBit s.draws (.skipClear b) <;> simpa [hk] using hb

/-- R13: where there is a Software Lock there is no ARMv8.3-DoPD, so a read is permitted. -/
theorem haveDopd_of_softwareLocked (hs : s.softwareLocked acc = true) : s.cfg.haveDopd = false := by
  have hl := ((softwareLocked_iff s acc).1 hs).1
  by_contra hh
  simp [s.cfg.haveSoftwareLock_of_haveDopd (by simpa using hh)] at hl

/-- No field rule asks the Software Lock. -/
theorem readValue_slk (s : State) (acc : AccessAttr) (b : Bool) :
    State.readValue { s with env := { s.env with slk := b } } acc = s.readValue acc := rfl

/-- Settles O14: the second read differs in EDLSR.SLK alone, which the word does not see. -/
theorem softwareLockedReadClearsNothing : Obligations.SoftwareLockedReadClearsNothing := by
  intro acc s
  refine ⟨fun hm => by simp [State.softwareLocked, hm], fun hs => ⟨s.readValue acc, ?_, ?_⟩⟩
  all_goals have hh : s.cfg.haveDopd = false := haveDopd_of_softwareLocked hs
  · rw [exec_edprsrRd_permitted acc s (.inl hh), latchesAfterRead_softwareLocked s acc hs]
  · exact ⟨_, exec_edprsrRd_permitted acc _ (.inl hh),
      congrArg Response.value (readValue_slk s acc false)⟩

end Sys2Proof.Machine
end

section
/-! PROOFS of the family 40_read_access.md, part 3: the word of a read in each row of the table of R139
(O17 to O22), and its reserved bits (O23). Each statement goes through the fields, with the lemma of
part 1 for the field in that row. -/

namespace Sys2Proof.Machine

variable {s t : State} {acc : AccessAttr} {f : Field}

/-! ### Core powered, out of reset, not double locked -/

/-- The last two rows of R139 in one: the OS Lock hides what it hides, the rest are the facts. -/
theorem fieldBit_of_running (hp : s.env.power = .on) (hr : s.env.inReset = false)
    (hd : s.doubleLocked = false) (f : Field) :
    s.fieldBit acc f =
      if s.osLockHides f then Config.drawBit s.draws (.read f) else s.fieldFact acc f := by
  have hC : s.unknownC = false := unknownC_eq_false_iff.2 ⟨hp, hd⟩
  have hA : s.unknownA = false := by rw [unknownA_eq, hC, hr, Bool.or_false]
  have hR : s.inDoubleLockedReset = false := by simp [State.inDoubleLockedReset, hr]
  cases f with
  | stad | etad | sdr | spmad | epmad | sdad | edad | oslk => exact fieldBit_of_not_unknownA hA rfl
  | dlk =>
    simp [fieldBit_of_known (fieldView_dlk_of_unlocked hp hd), State.osLockHides, State.fieldFact, hd]
  | halted => simp [fieldBit_halted, State.osLockHides, State.fieldFact, hp]
  | sr => simp [fieldBit_sr, State.osLockHides, State.fieldFact, hC]
  | r => simp [fieldBit_r, State.osLockHides, State.fieldFact, hC, hR]
  | spd =>
    simp [fieldBit_of_known (fieldView_spd_of_unlocked hp hd), State.osLockHides, State.fieldFact,
      spdFact_unlocked s hp hd]
  | pu =>
    simp [fieldBit_pu_of_unlocked hp hd, State.osLockHides, State.fieldFact, hR,
      (corePowered_iff s).2 hp]

theorem fieldBit_eq_fieldFact (hp : s.env.power = .on) (hr : s.env.inReset = false)
    (hd : s.doubleLocked = false) (ho : s.env.oslk = false ∨ s.cfg.v84 = true) (f : Field) :
    s.fieldBit acc f = s.fieldFact acc f := by
  simp [fieldBit_of_running hp hr hd, osLockHides_of_readable ho]

/-- Settles O17: here the OS Lock hides nothing. -/
theorem runningReadReturnsEveryFact : Obligations.RunningReadReturnsEveryFact :=
  fun _ _ hp hr hd ho => exists_read_of_fieldBit (.inr hp) (fieldBit_eq_fieldFact hp hr hd ho)

/-- Settles O18: the draws are the fields that the OS Lock hides. -/
theorem osLockedReadHidesTheAccessErrors : Obligations.OsLockedReadHidesTheAccessErrors := by
  intro acc s hp hr hd ho hv
  refine exists_read_of_fieldBit (.inr hp) fun f => ?_
  simp only [fieldBit_of_running hp hr hd, osLockHides_iff_of_locked ho hv]

/-! ### In reset, unpowered, double locked: `U_A` hides the eight fields that ask it -/

/-- Settles O19: reset state hides the eight fields, and HALTED, SR and SPD do not ask it. -/
theorem readInResetHidesTheRest : Obligations.ReadInResetHidesTheRest := by
  intro acc s hp hr hd
  have hC : s.unknownC = false := unknownC_eq_false_iff.2 ⟨hp, hd⟩
  have hA : s.unknownA = true := by rw [unknownA_eq, hr, Bool.or_true]
  have hR : s.inDoubleLockedReset = (s.env.resetEnteredDlk && s.cfg.doubleLock) := by
    simp [State.inDoubleLockedReset, hr]
  refine exists_read_of_fieldBit (.inr hp) fun f => ?_
  cases f with
  | stad | etad | sdr | spmad | epmad | sdad | edad | oslk => exact fieldBit_of_unknownA hA rfl
  | dlk => exact fieldBit_of_known (fieldView_dlk_of_unlocked hp hd)
  | halted => simp [fieldBit_halted, hp]
  | sr => simp [fieldBit_sr, hC]
  | r => simp [fieldBit_r, hC, hR, hr]
  | spd => exact fieldBit_of_known (fieldView_spd_of_unlocked hp hd)
  | pu => rw [fieldBit_pu_of_unlocked hp hd, hR]

/-- Settles O20: of the fields only PU, SPD and, by variant, DLK are determined. -/
theorem unpoweredReadReturnsDraws : Obligations.UnpoweredReadReturnsDraws := by
  intro acc s hp hh
  have hC : s.unknownC = true := unknownC_of_unpowered hp
  have hA : s.unknownA = true := by rw [unknownA_eq, hC, Bool.true_or]
  refine exists_read_of_fieldBit (.inl hh) fun f => ?_
  cases f with
  | stad | etad | sdr | spmad | epmad | sdad | edad | oslk => exact fieldBit_of_unknownA hA rfl
  | dlk => exact fieldBit_dlk_of_unpowered hp
  | halted => simp [fieldBit_halted, hp]
  | sr => simp [fieldBit_sr, hC]
  | r => simp [fieldBit_r, hC]
  | spd => exact fieldBit_spd_of_unpowered hp
  | pu => rw [fieldBit_pu_of_unpowered hp, hh]

/-- R44: under the Double Lock the PE is not in Debug state. -/
theorem not_halted_of_doubleLocked (hd : s.doubleLocked = true) : s.env.halted = false :=
  ((doubleLocked_iff s).1 hd).2.2.2

/-- Settles O21: HALTED is 0 by R44; PU, DLK and SPD follow the version and the choice. -/
theorem doubleLockedReadByVariant : Obligations.DoubleLockedReadByVariant := by
  intro acc s hp hr hd
  have hC : s.unknownC = true := unknownC_of_doubleLocked hd
  have hA : s.unknownA = true := by rw [unknownA_eq, hC, Bool.true_or]
  refine exists_read_of_fieldBit (.inr hp) fun f => ?_
  cases f with
  | stad | etad | sdr | spmad | epmad | sdad | edad | oslk => exact fieldBit_of_unknownA hA rfl
  | dlk => exact fieldBit_dlk_of_doubleLocked hp hd
  | halted => simp [fieldBit_halted, hp, not_halted_of_doubleLocked hd]
  | sr => simp [fieldBit_sr, hC]
  | r => simp [fieldBit_r, hC]
  | spd => exact fieldBit_spd_of_doubleLocked hp hd
  | pu => exact fieldBit_pu_of_doubleLocked hp hr hd

/-- Settles O22: the one field rule serves the three clauses. -/
theorem haltedShowsDebugStateWhenPowered : Obligations.HaltedShowsDebugStateWhenPowered := by
  intro acc s h
  obtain ⟨t, ht, hbit⟩ := exists_read (acc := acc) h
  refine ⟨t, ht, fun hp => ?_, fun hp => ?_, fun hp hd => ?_⟩ <;> rw [hbit, fieldBit_halted]
  · rw [if_neg hp]
  · rw [if_pos hp]
  · rw [if_pos hp, not_halted_of_doubleLocked hd]

/-! ### The reserved bits (R123, R146) -/

/-- A read that returned a word returned the word of the state before it. -/
theorem eq_readValue_of_exec {v : Word} (h : exec (.edprsrRd acc) s = .next t)
    (hv : t.response = .value v) : v = s.readValue acc := by
  by_cases hc : s.cfg.haveDopd = false ∨ s.env.power = .on
  · rw [exec_edprsrRd_permitted acc s hc] at h
    cases h
    exact (Response.value.inj hv).symm
  · obtain ⟨hh, hp⟩ := not_or.1 hc
    rw [exec_edprsrRd_fails acc s (by simpa using hh) hp] at h
    cases h
    cases hv

/-- A word that is 0 wherever the mask is 1 is 0 under the mask. -/
theorem and_mask_eq_zero {v mask : Word}
    (h : ∀ n < 32, mask.getLsbD n = true → v.getLsbD n = false) : v &&& mask = 0#32 := by
  refine BitVec.eq_of_getLsbD_eq fun n hn => ?_
  rw [BitVec.getLsbD_and, BitVec.getLsbD_zero]
  cases hm : mask.getLsbD n with
  | false => exact Bool.and_false _
  | true => rw [h n hn hm, Bool.false_and]

theorem readValue_field_of_known {b : Bool} (h : s.fieldView acc f = .known b) :
    (s.readValue acc).getLsbD (fieldPos f) = b := by
  rw [State.readValue, assembleWord_field, fieldBit_of_known h]

/-- Settles O23: each mask covers no bit but those above the fields, or those of the fields it names. -/
theorem reservedBitsReadAsZero : Obligations.ReservedBitsReadAsZero := by
  intro acc s t v h hv
  obtain rfl := eq_readValue_of_exec h hv
  refine ⟨and_mask_eq_zero fun n hn hm => ?_, assembleWord_lt _,
    fun ht => and_mask_eq_zero fun n hn hm => ?_, fun hd => and_mask_eq_zero fun n hn hm => ?_⟩
  · have hbits : ∀ n < 32, (0xFFFFC000#32).getLsbD n = true → 14 ≤ n := by decide
    exact assembleWord_high _ n (hbits n hn hm)
  · have hbits : ∀ n < 32, (0x00003000#32).getLsbD n = true →
        n = fieldPos .stad ∨ n = fieldPos .etad := by decide
    obtain rfl | rfl := hbits n hn hm <;>
      exact readValue_field_of_known
        (fieldView_of_res0WithoutTrbe (by simp [State.res0WithoutTrbe, ht]))
  · have hbits : ∀ n < 32, (0x00000040#32).getLsbD n = true → n = fieldPos .dlk := by decide
    obtain rfl := hbits n hn hm
    exact readValue_field_of_known (fieldView_dlk_of_res0 hd)

end Sys2Proof.Machine
end

section
/-! PROOFS of the family 40_read_access.md, part 4: the reads of an unpowered core and the power up after
them (O15). -/

namespace Sys2Proof.Machine

variable {s : State} {acc : AccessAttr}

/-! ### The reads -/

theorem runSteps_append {is js : List Instr} {t : State} (h : s.runSteps is = some t) :
    s.runSteps (is ++ js) = t.runSteps js := by
  induction is generalizing s with
  | nil => cases h; rfl
  | cons i is ih =>
    obtain ⟨u, hu, hrun⟩ := runSteps_cons_some i is s t h
    rw [List.cons_append, runSteps_cons i _ s u hu, ih hrun]

/-- A permitted read of an unpowered core clears nothing (R143). -/
theorem exec_edprsrRd_unpowered (hp : s.env.power ≠ .on) (hh : s.cfg.haveDopd = false) :
    exec (.edprsrRd acc) s =
      .next { s with response := .value (s.readValue acc), draws := s.draws + 1 } := by
  rw [exec_edprsrRd_permitted acc s (.inl hh),
    latchesAfterRead_unpowered s acc ((corePowered_eq_false s).2 hp)]

/-- What the read of an unpowered core says for certain (R137, R138). -/
def Response.SaysUnpowered (r : Response) (s : State) : Prop :=
  r.field? .pu = some false ∧
  r.field? .spd = some (if s.env.power = .off then s.cfg.spdPowerdown else s.cfg.spdLowPower)

theorem readValue_saysUnpowered (acc : AccessAttr) (hp : s.env.power ≠ .on)
    (hh : s.cfg.haveDopd = false) : (Response.value (s.readValue acc)).SaysUnpowered s :=
  ⟨(field?_readValue s acc .pu).trans (congrArg some ((fieldBit_pu_of_unpowered hp).trans hh)),
   (field?_readValue s acc .spd).trans (congrArg some (fieldBit_spd_of_unpowered hp))⟩

/-- R143, by induction on the number of reads: only the last read's word and the draws are new. -/
theorem runSteps_reads_unpowered (acc : AccessAttr) (hp : s.env.power ≠ .on)
    (hh : s.cfg.haveDopd = false) (n : Nat) :
    ∃ r, s.runSteps (List.replicate n (.edprsrRd acc)) =
        some { s with response := r, draws := s.draws + n } ∧ (0 < n → r.SaysUnpowered s) := by
  induction n with
  | zero => exact ⟨s.response, rfl, fun h => absurd h (Nat.lt_irrefl 0)⟩
  | succ n ih =>
    obtain ⟨r, hrun, -⟩ := ih
    refine ⟨.value (State.readValue { s with response := r, draws := s.draws + n } acc), ?_,
      fun _ => readValue_saysUnpowered acc hp hh⟩
    rw [List.replicate_succ', runSteps_append hrun]
    exact runSteps_cons _ [] _ _ (exec_edprsrRd_unpowered hp hh)

/-! ### The power up -/

theorem exec_corePowerUp_lost (hp : s.env.power ≠ .on) :
    exec (.corePowerUp true) s = .next s.powerUpLost.eventDone := by
  simp [exec, execCorePowerUp, (corePowered_eq_false s).2 hp]

theorem exec_corePowerUp_restored (hp : s.env.power ≠ .on) :
    exec (.corePowerUp false) s = .next s.powerUpRestored.eventDone := by
  simp [exec, execCorePowerUp, (corePowered_eq_false s).2 hp]

/-- A Cold reset clears OSDLR_EL1.DLK (D9). -/
theorem doubleLocked_powerUpLost : s.powerUpLost.doubleLocked = false := rfl

/-- What a read with the core powered and the Double Lock unlocked shows in reset too (R132, R135,
R137). -/
theorem fieldBits_of_unlocked (acc : AccessAttr) (hp : s.env.power = .on)
    (hd : s.doubleLocked = false) :
    s.fieldBit acc .spd = s.st.spd ∧ s.fieldBit acc .sr = s.st.sr ∧ s.fieldBit acc .dlk = false :=
  ⟨fieldBit_of_known (fieldView_spd_of_unlocked hp hd),
   by simp [fieldBit_sr, unknownC_eq_false_iff.2 ⟨hp, hd⟩],
   fieldBit_of_known (fieldView_dlk_of_unlocked hp hd)⟩

/-- After a power up that lost the state SPD and SR are 1 (R187). -/
theorem read_after_powerUpLost (acc : AccessAttr) (hp : s.env.power ≠ .on) :
    ∃ u w, exec (.corePowerUp true) s = .next u ∧ exec (.edprsrRd acc) u = .next w ∧
      w.response.field? .spd = some true ∧ w.response.field? .sr = some true := by
  have hon : s.powerUpLost.eventDone.env.power = .on := rfl
  obtain ⟨w, hw, hbit⟩ := exists_read (acc := acc) (.inr hon)
  obtain ⟨hspd, hsr, -⟩ := fieldBits_of_unlocked acc hon doubleLocked_powerUpLost
  exact ⟨_, w, exec_corePowerUp_lost hp, hw, (hbit .spd).trans (congrArg some hspd),
    (hbit .sr).trans (congrArg some hsr)⟩

/-- The state of before, powered again: no fact depends on the response or the draws. -/
theorem fieldFact_powerUpRestored (acc : AccessAttr) (r : Response) (k : Nat) (f : Field) :
    let u := (State.powerUpRestored { s with response := r, draws := k }).eventDone
    u.fieldFact acc f =
      State.fieldFact { s with env := { s.env with power := .on, corenpdrq := u.env.corenpdrq } }
        acc f := by
  cases f <;> rfl

/-- Settles O15: the reads leave the state but for the response and the draws, on which neither power
up nor any fact depends. -/
theorem unpoweredReadsChangeNothing : Obligations.UnpoweredReadsChangeNothing := by
  intro acc acc' s n hp hh
  obtain ⟨r, hrun, hr⟩ := runSteps_reads_unpowered acc hp hh n
  refine ⟨_, hrun, rfl, hr, read_after_powerUpLost acc' hp, ?_⟩
  have hon : (State.powerUpRestored { s with response := r, draws := s.draws + n }).eventDone.env.power
      = .on := rfl
  obtain ⟨w, hw, hbit⟩ := exists_read (acc := acc') (.inr hon)
  refine ⟨_, w, exec_corePowerUp_restored hp, rfl, hw, fun hd => ?_⟩
  obtain ⟨hspd, hsr, hdlk⟩ := fieldBits_of_unlocked acc' hon hd
  refine ⟨(hbit .spd).trans (congrArg some hspd), (hbit .sr).trans (congrArg some hsr),
    (hbit .dlk).trans (congrArg some hdlk), fun hreset ho f => ?_⟩
  rw [hbit, fieldBit_eq_fieldFact hon hreset hd ho, fieldFact_powerUpRestored]

end Sys2Proof.Machine
end

section
/-! PROOFS of the family 41_write_access.md, part 1: the writes of EDPRSR, OSLAR_EL1 and EDLAR (O26, O28 to
O30). Each register has the equation of its failing and of its completing write; the failing one goes
through the model's law of R190. -/

namespace Sys2Proof.Machine

variable {s : State} {data : Word} {acc : AccessAttr}

/-! ### The registers outside the Core power domain (R160, R164) -/

theorem registerInaccessible_iff (s : State) :
    s.registerInaccessible = true ↔ s.cfg.haveDopd = true ∧ s.env.power ≠ .on := by
  simp [State.registerInaccessible, corePowered_eq_false, and_comm]

theorem registerInaccessible_eq_false_iff (s : State) :
    s.registerInaccessible = false ↔ s.cfg.haveDopd = false ∨ s.env.power = .on := by
  simp only [State.registerInaccessible, Bool.and_eq_false_iff, Bool.not_eq_false', corePowered_iff,
    or_comm]

/-- Settles O26, by whether the register can be reached: neither outcome looks at the data. -/
theorem writeOfEdprsrIsIgnored : Obligations.WriteOfEdprsrIsIgnored := by
  intro data acc s
  simp only [← registerInaccessible_iff]
  simp only [exec, execEdprsrWr]
  split_ifs <;> rfl

theorem exec_edlarWr_fails (h : s.registerInaccessible = true) :
    exec (.edlarWr data acc) s = .next s.errorResponse := by
  simp [exec, execEdlarWr, h]

/-- EDLAR is WI for an access that is not memory-mapped, and without the Software Lock (D18). -/
theorem exec_edlarWr_completes (h : s.registerInaccessible = false) :
    exec (.edlarWr data acc) s = .next
      (if s.cfg.haveSoftwareLock = true ∧ acc.memoryMapped = true then
        (s.withEnv { s.env with slk := edlarLock data }).respond .ok
       else s.respond .ok) := by
  cases hl : s.cfg.haveSoftwareLock <;> cases hm : acc.memoryMapped <;>
    simp [exec, execEdlarWr, h, hl, hm]

/-- The key clears the Software Lock and any other value sets it (R196). -/
theorem edlarLock_eq (data : Word) : edlarLock data = decide (data ≠ 0xC5ACCE55#32) :=
  Bool.eq_iff_iff.2 (by simp [edlarLock, lockKey])

/-- Settles O30. -/
theorem edlarWriteSetsTheSoftwareLock : Obligations.EdlarWriteSetsTheSoftwareLock := by
  intro data acc s
  refine ⟨fun hd hp => exec_edlarWr_fails ((registerInaccessible_iff s).2 ⟨hd, hp⟩), fun h => ?_⟩
  rw [exec_edlarWr_completes ((registerInaccessible_eq_false_iff s).2 h), edlarLock_eq]
  rfl

/-! ### A failed access to a register governed by `AllowExternalDebugAccess()` -/

/-- R190 with its cases under other names: `kept` where SDAD stays (cases d and e), `undecided` where it
is a draw (cases b and c). -/
theorem failDebugAccess_eq_of_iff {denied otherCause : Bool} {kept undecided : Prop}
    [Decidable kept] [Decidable undecided]
    (hkept : s.corePowered = false ∨ denied = false ↔ kept)
    (hundecided : otherCause = true ∨ (s.cfg.v84 = true ∧ acc.nonSecure = false) ↔ undecided) :
    s.failDebugAccess acc denied otherCause =
      { s with
        st := { s.st with sdad :=
          if kept then s.st.sdad
          else if undecided then s.st.sdad || Config.drawBit s.draws (.maybeSet .sdad)
          else true }
        response := .error
        draws := s.draws + 1 } := by
  simp only [failDebugAccess_eq, sdadAfterFailure_eq, hkept, hundecided]

/-! ### OSLAR_EL1 (R163) -/

theorem oslarDenied_iff (s : State) (acc : AccessAttr) :
    s.oslarDenied acc = true ↔
      s.env.allowDebug.allows acc = false ∧ s.cfg.oslarErrOnEdad = true := by
  simp [oslarDenied_eq]

theorem oslarDenied_eq_false_iff (s : State) (acc : AccessAttr) :
    s.oslarDenied acc = false ↔
      s.env.allowDebug.allows acc = true ∨ s.cfg.oslarErrOnEdad = false := by
  rw [← Bool.not_eq_true, oslarDenied_iff]
  simp [or_iff_not_imp_left]

theorem exec_oslarWr_fails
    (h : s.env.power ≠ .on ∨ s.doubleLocked = true ∨ s.oslarDenied acc = true) :
    exec (.oslarWr data acc) s =
      .next (s.failDebugAccess acc (s.oslarDenied acc) s.doubleLocked) := by
  have hfails : (!s.corePowered || s.doubleLocked || s.oslarDenied acc) = true := by
    simpa [corePowered_eq_false, or_assoc] using h
  simp [exec, execOslarWr, hfails]

theorem exec_oslarWr_permitted (hp : s.env.power = .on) (hd : s.doubleLocked = false)
    (ha : s.oslarDenied acc = false) :
    exec (.oslarWr data acc) s = .next
      (if s.softwareLocked acc then s.respond .ok
       else (s.withEnv { s.env with oslk := oslarDataBit data }).respond .ok) := by
  simp [exec, execOslarWr, (corePowered_iff s).2 hp, hd, ha]

/-- Settles O28. -/
theorem oslarWriteIgnoredUnderSoftwareLock : Obligations.OslarWriteIgnoredUnderSoftwareLock := by
  intro data acc s hp hd ha hs
  rw [exec_oslarWr_permitted hp hd ((oslarDenied_eq_false_iff s acc).2 ha), if_pos hs]
  rfl

/-- Settles O29: what fails the write and what R190 makes of SDAD, in the terms of R163. -/
theorem failedOslarWriteAndSdad : Obligations.FailedOslarWriteAndSdad := by
  intro data acc s h
  rw [← oslarDenied_iff] at h
  rw [exec_oslarWr_fails h,
    failDebugAccess_eq_of_iff (or_congr (corePowered_eq_false s) (oslarDenied_eq_false_iff s acc))
      Iff.rfl]

end Sys2Proof.Machine
end

section
/-! PROOFS of the family 41_write_access.md, part 2: the breakpoint and watchpoint registers (O31, O32).
The six rows share one meaning, `State.breakWatchAccess`. -/

namespace Sys2Proof.Machine

variable {s : State} {acc : AccessAttr} {i : Instr}

theorem exec_breakWatchRow {n : Nat} {op : RegOp} (hi : i ∈ breakWatchRows n op acc) :
    exec i s = .next (s.breakWatchAccess op acc) := by
  simp only [List.mem_cons, List.not_mem_nil, or_false] at hi
  obtain rfl | rfl | rfl | rfl | rfl | rfl := hi <;> rfl

theorem breakWatchFails_iff (s : State) (acc : AccessAttr) :
    s.breakWatchFails acc = true ↔
      s.env.power ≠ .on ∨ s.doubleLocked = true ∨ s.env.oslk = true ∨
        s.env.allowDebug.allows acc = false := by
  simp only [State.breakWatchFails, State.osLocked, State.debugAllowed, Bool.or_eq_true,
    Bool.not_eq_true', corePowered_eq_false]
  tauto

theorem breakWatchFails_eq_false (hp : s.env.power = .on) (hd : s.doubleLocked = false)
    (ho : s.env.oslk = false) (ha : s.env.allowDebug.allows acc = true) :
    s.breakWatchFails acc = false := by
  simp [← Bool.not_eq_true, breakWatchFails_iff, hp, hd, ho, ha]

/-- Settles O31, by the two laws of a permitted access. -/
theorem permittedBreakpointWatchpointAccess : Obligations.PermittedBreakpointWatchpointAccess := by
  intro n acc data s hp hd ho ha
  have hf := breakWatchFails_eq_false hp hd ho ha
  refine ⟨fun i hi => ?_, fun i hi => ?_⟩
  · rw [exec_breakWatchRow hi, breakWatchAccess_write s data acc hf]; rfl
  · rw [exec_breakWatchRow hi, breakWatchAccess_read s acc hf]; rfl

/-- Settles O32: here the OS Lock too is another cause (R190 case c). -/
theorem failedBreakpointWatchpointAccessAndSdad :
    Obligations.FailedBreakpointWatchpointAccessAndSdad := by
  intro n op acc s h i hi
  have hkept : s.corePowered = false ∨ (!s.debugAllowed acc) = false ↔
      s.env.power ≠ .on ∨ s.env.allowDebug.allows acc = true :=
    or_congr (corePowered_eq_false s) (iff_of_eq (Bool.not_eq_false' _))
  have hundecided : (s.doubleLocked || s.osLocked) = true ∨
        (s.cfg.v84 = true ∧ acc.nonSecure = false) ↔
      s.doubleLocked = true ∨ s.env.oslk = true ∨ (s.cfg.v84 = true ∧ acc.nonSecure = false) := by
    rw [Bool.or_eq_true, or_assoc]; rfl
  rw [exec_breakWatchRow hi, breakWatchAccess_fails s op acc ((breakWatchFails_iff s acc).2 h),
    failDebugAccess_eq_of_iff hkept hundecided]

end Sys2Proof.Machine
end

section
/-! PROOFS of the family 41_write_access.md, part 3: the requests through EDPRCR (O60). A write that can
have an effect finds the core powered, which is all that the two events ask; a reset leaves the Double
Lock unlocked, so the read after its release is believed. -/

namespace Sys2Proof.Machine

variable {s : State} {acc : AccessAttr}

theorem edprcrWriteEffective_iff (s : State) (acc : AccessAttr) :
    s.edprcrWriteEffective acc = true ↔
      s.env.power = .on ∧ s.doubleLocked = false ∧ s.env.oslk = false ∧
        s.softwareLocked acc = false := by
  simp only [State.edprcrWriteEffective, State.osLocked, Bool.and_eq_true, Bool.not_eq_true',
    corePowered_iff, and_assoc]

/-- The PE takes the request when none of R183's three conditions holds. -/
theorem peIgnoresCwrr_eq_false_iff (d : InvasiveDebug) :
    peIgnoresCwrr d = false ↔
      ¬(d.enabled = false ∧ d.haveEl3 = false ∧ d.onlySecure = false) ∧
      ¬(d.secureEnabled = false ∧ d.haveEl3 = false ∧ d.onlySecure = true) ∧
      ¬(d.secureEnabled = false ∧ d.haveEl3 = true) := by
  simp only [← Bool.not_eq_true, peIgnoresCwrr, Bool.or_eq_true, Bool.and_eq_true, Bool.not_eq_true',
    not_or, and_assoc]

theorem warmResetMayFollow_iff (s : State) (acc : AccessAttr) (d : InvasiveDebug) :
    s.warmResetMayFollow acc d = true ↔
      s.edprcrWriteEffective acc = true ∧ s.cfg.warmResetExtent ≠ .ignored ∧
        peIgnoresCwrr d = false := by
  simp only [State.warmResetMayFollow, Bool.and_eq_true, Bool.not_eq_true', bne_iff_ne, and_assoc]
  exact and_congr_right' and_comm

theorem exec_corenpdrqWrite_of_powered (b : Bool) (hp : s.env.power = .on) :
    exec (.corenpdrqWrite b) s =
      .next (s.withEnv { s.env with corenpdrq := b }).eventDone := by
  simp [exec, execCorenpdrqWrite, (corePowered_iff s).2 hp]

theorem exec_warmReset_of_powered (hp : s.env.power = .on) :
    exec .warmReset s = .next s.enterWarmReset.eventDone := by
  simp [exec, execWarmReset, (corePowered_iff s).2 hp]

theorem exec_resetRelease_of_inReset (hp : s.env.power = .on) (hr : s.env.inReset = true) :
    exec .resetRelease s = .next (s.withEnv { s.env with inReset := false }).eventDone := by
  simp [exec, execResetRelease, (corePowered_iff s).2 hp, hr]

/-- Out of reset, with the core powered and the Double Lock unlocked, a read shows R as 0 and SR as it
is stored, whatever the OS Lock (R135, R136). -/
theorem exists_read_r_sr (acc : AccessAttr) (hp : s.env.power = .on) (hd : s.doubleLocked = false)
    (hr : s.env.inReset = false) :
    ∃ t, exec (.edprsrRd acc) s = .next t ∧ t.response.field? .r = some false ∧
      t.response.field? .sr = some s.st.sr := by
  obtain ⟨t, ht, hbit⟩ := exists_read (acc := acc) (.inr hp)
  have hC : s.unknownC = false := unknownC_eq_false_iff.2 ⟨hp, hd⟩
  have hfieldR : s.fieldBit acc .r = false := by
    simp [fieldBit_r, hC, State.inDoubleLockedReset, hr]
  have hfieldSr : s.fieldBit acc .sr = s.st.sr := by simp [fieldBit_sr, hC]
  exact ⟨t, ht, (hbit .r).trans (congrArg some hfieldR), (hbit .sr).trans (congrArg some hfieldSr)⟩

/-- R182: the release leaves SR for the next read to show. -/
theorem exists_release_read (acc : AccessAttr) (hp : s.env.power = .on)
    (hd : s.doubleLocked = false) (hr : s.env.inReset = true) :
    ∃ t u, exec .resetRelease s = .next t ∧ t.env.inReset = false ∧
      exec (.edprsrRd acc) t = .next u ∧ u.response.field? .r = some false ∧
      u.response.field? .sr = some s.st.sr := by
  obtain ⟨u, hu, hfields⟩ := exists_read_r_sr
    (s := (s.withEnv { s.env with inReset := false }).eventDone) acc hp hd rfl
  exact ⟨_, u, exec_resetRelease_of_inReset hp hr, rfl, hu, hfields⟩

/-- A Warm reset clears OSDLR_EL1.DLK (D9), so the Double Lock is unlocked from then on. -/
theorem doubleLocked_enterWarmReset (s : State) : s.enterWarmReset.doubleLocked = false := rfl

/-- R181, R182: a powered core can be Warm reset and released, and the next read shows it in SR. -/
theorem exists_warmReset_release_read (acc : AccessAttr) (hp : s.env.power = .on) :
    ∃ t u w, exec .warmReset s = .next t ∧ t.env.inReset = true ∧ t.st.sr = true ∧
      exec .resetRelease t = .next u ∧ u.env.inReset = false ∧
      exec (.edprsrRd acc) u = .next w ∧
      w.response.field? .r = some false ∧ w.response.field? .sr = some true := by
  obtain ⟨u, w, hreleased⟩ := exists_release_read (s := s.enterWarmReset.eventDone) acc hp
    (doubleLocked_enterWarmReset s) rfl
  exact ⟨_, u, w, exec_warmReset_of_powered hp, rfl, rfl, hreleased⟩

/-- Settles O60. -/
theorem edprcrRequestsAreEnabledEvents : Obligations.EdprcrRequestsAreEnabledEvents := by
  intro s acc acc' d b
  have hpowered (h : s.edprcrWriteEffective acc = true) : s.env.power = .on :=
    ((edprcrWriteEffective_iff s acc).1 h).1
  refine ⟨edprcrWriteEffective_iff s acc, fun h => exec_corenpdrqWrite_of_powered b (hpowered h), ?_,
    fun h => ?_⟩
  · rw [warmResetMayFollow_iff, peIgnoresCwrr_eq_false_iff]
  · obtain ⟨heff, -, -⟩ := (warmResetMayFollow_iff s acc d).1 h
    exact exists_warmReset_release_read acc' (hpowered heff)

end Sys2Proof.Machine
end

section
/-! PROOFS of the family 42_indirect_updates.md, part 1: the steps that lose no setting (O53, O37). What a
step can clear is said by O50; one induction carries it through a sequence. -/

namespace Sys2Proof.Machine

variable {s t : State} {i : Instr} {acc : AccessAttr} {b : Sticky}

/-- What every admitted step keeps, a sequence of admitted steps keeps. -/
theorem runSteps_keeps {P : State → Prop} {admitted : Instr → Prop}
    (hstep : ∀ (i : Instr) (s t : State), admitted i → exec i s = .next t → P s → P t)
    {is : List Instr} (his : ∀ i ∈ is, admitted i) (hrun : s.runSteps is = some t) (hs : P s) :
    P t := by
  induction is generalizing s with
  | nil => cases hrun; exact hs
  | cons i is ih =>
    obtain ⟨u, hu, hrest⟩ := runSteps_cons_some i is s t hrun
    obtain ⟨hi, his⟩ := List.forall_mem_cons.1 his
    exact ih his hrest (hstep i s u hi hu hs)

theorem exec_keeps_set_bit (hi : clearsStoredBits i = false) (h : exec i s = .next t)
    (h0 : s.st.get b = true) : t.st.get b = true := by
  by_contra h1
  obtain ⟨acc, rfl, -⟩ | ⟨-, -, rfl | rfl⟩ | ⟨-, rfl⟩ :=
    onlyTheseStepsClearAStoredBit i s t b h h0 (by simpa using h1) <;> cases hi

/-- Settles O53, by induction on the sequence. -/
theorem noSettingIsLost : Obligations.NoSettingIsLost := fun _ _ _ b hrun his hs =>
  runSteps_keeps (P := fun s => s.st.get b = true)
    (fun _ _ _ hi h h0 => exec_keeps_set_bit hi h h0) his hrun hs

/-! ### SR after the release of a reset (R182) -/

/-- Of the steps that clear a bit only a read clears SR (R141, D9). -/
theorem exec_keeps_sr (hi : ∀ acc, i ≠ .edprsrRd acc) (h : exec i s = .next t)
    (h0 : s.st.sr = true) : t.st.sr = true := by
  by_contra h1
  obtain ⟨acc, hread, -⟩ | ⟨hsr, -⟩ | ⟨hsr, -⟩ :=
    onlyTheseStepsClearAStoredBit i s t .sr h h0 (by simpa [Latches.get] using h1)
  · exact hi acc hread
  · exact hsr rfl
  · cases hsr

/-- With the core powered and not double locked a read shows SR, and out of reset it clears it. -/
theorem exists_read_sr (acc : AccessAttr) (hp : s.env.power = .on) (hd : s.doubleLocked = false) :
    ∃ t, exec (.edprsrRd acc) s = .next t ∧ t.response.field? .sr = some s.st.sr ∧
      (s.env.inReset = false → s.softwareLocked acc = false → t.st.sr = false) := by
  obtain ⟨-, hsr, -⟩ := fieldBits_of_unlocked acc hp hd
  refine ⟨_, exec_edprsrRd_permitted acc s (.inr hp),
    (field?_readValue s acc .sr).trans (congrArg some hsr), fun hr hs => ?_⟩
  have hcleared := latchesAfterRead_unlocked s acc hs ((corePowered_iff s).2 hp) hd
  exact congrArg Latches.sr (hcleared.trans (clearedLatches_of_running hr))

/-- Settles O37. -/
theorem resetReleaseEffect : Obligations.ResetReleaseEffect := by
  intro s hp hr
  refine ⟨_, exec_resetRelease_of_inReset hp hr, rfl, fun hsr is u acc his hrun => ?_⟩
  have husr : u.st.sr = true :=
    runSteps_keeps (P := fun s => s.st.sr = true) (fun _ _ _ => exec_keeps_sr) his hrun hsr
  exact ⟨husr, fun hup hud => husr ▸ exists_read_sr acc hup hud⟩

end Sys2Proof.Machine
end

section
/-! PROOFS of the family 42_indirect_updates.md, part 2: where a label is taken (O7), and what each event
with a fixed effect does (O35, O36, O38 to O43, O46). A guarded event is `takeEvent` of its precondition
and its effect; each lemma below names the precondition in the terms of R171. -/

namespace Sys2Proof.Machine

variable {s : State} {i : Instr} {enabled : Bool} {e : GuardedEvent} {after : State}

/-! ### Where a label is taken (R170, R171) -/

/-- The label is taken where `enabled` says, and refused as an event elsewhere. -/
def TakenExactlyWhen (enabled : Bool) (i : Instr) (s : State) : Prop :=
  (enabled = true → ∃ t, exec i s = .next t) ∧
  (enabled = false → isAccess i = false ∧ ∃ e, exec i s = .refused (.eventNotEnabled e))

theorem takenExactlyWhen_true (h : ∃ t, exec i s = .next t) : TakenExactlyWhen true i s :=
  ⟨fun _ => h, nofun⟩

theorem takenExactlyWhen_of_takeEvent (hi : isAccess i = false)
    (hexec : exec i s = takeEvent enabled e after) {listed : Bool} (hlisted : listed = enabled) :
    TakenExactlyWhen listed i s := by
  rw [TakenExactlyWhen, hexec, hlisted]
  cases enabled with
  | true => exact ⟨fun _ => ⟨_, rfl⟩, nofun⟩
  | false => exact ⟨nofun, fun _ => ⟨hi, e, rfl⟩⟩

theorem power_beq_on (s : State) : (s.env.power == .on) = s.corePowered := by
  rw [Bool.eq_iff_iff, beq_iff_eq, corePowered_iff]

theorem power_beq_on_and_not_inReset (s : State) :
    (s.env.power == .on && !s.env.inReset) = s.softwareRuns :=
  congrArg (· && !s.env.inReset) (power_beq_on s)

theorem enabled_corePowerDown (s : State) (k : DownTo) :
    s.enabled (.corePowerDown k) = s.canPowerDown k := by
  cases k <;> cases h : s.env.power <;> simp [State.enabled, State.canPowerDown, h]

theorem enabled_pmuAccessFail (s : State) (ns : Bool) :
    s.enabled (.pmuAccessFail ns) = s.pmuAccessFails (s.failingAccess ns) := by
  simp only [State.enabled, State.pmuAccessFails, power_beq_on, State.osLocked, State.pmuAllowed,
    Bool.not_and, Bool.not_not]
  ac_rfl

/-- By the label: the accesses and three of the events are taken always, and the table's entry of each
other event is its precondition. -/
theorem takenExactlyWhen_enabled (i : Instr) (s : State) : TakenExactlyWhen (s.enabled i) i s := by
  cases i with
  | edprsrRd | edprsrWr | oslarWr | edlarWr | dbgbvrLo | dbgbvrHi | dbgbcr | dbgwvrLo | dbgwvrHi
  | dbgwcr | extDebugReset | authChange | tracePower => exact takenExactlyWhen_true ⟨_, rfl⟩
  | coldReset | warmReset | corenpdrqWrite =>
    exact takenExactlyWhen_of_takeEvent rfl rfl (power_beq_on s)
  | corePowerUp => exact takenExactlyWhen_of_takeEvent rfl rfl (congrArg (! ·) (power_beq_on s))
  | resetRelease =>
    exact takenExactlyWhen_of_takeEvent rfl rfl (congrArg (· && s.env.inReset) (power_beq_on s))
  | debugExit =>
    exact takenExactlyWhen_of_takeEvent rfl rfl (congrArg (· && s.env.halted) (power_beq_on s))
  | oslockSw | osdlrWrite =>
    exact takenExactlyWhen_of_takeEvent rfl rfl (power_beq_on_and_not_inReset s)
  | debugEntry =>
    exact takenExactlyWhen_of_takeEvent rfl rfl
      (congrArg (· && !s.env.halted) (power_beq_on_and_not_inReset s))
  | corePowerDown k => exact takenExactlyWhen_of_takeEvent rfl rfl (enabled_corePowerDown s k)
  | pmuAccessFail ns => exact takenExactlyWhen_of_takeEvent rfl rfl (enabled_pmuAccessFail s ns)
  | traceAccessFail => exact takenExactlyWhen_of_takeEvent rfl rfl rfl

/-- Settles O7. -/
theorem stepTakenExactlyWhenEnabled : Obligations.StepTakenExactlyWhenEnabled :=
  takenExactlyWhen_enabled

/-- A label that is a guarded event does its effect where its precondition holds. -/
theorem exec_next_of_takeEvent (hexec : exec i s = takeEvent enabled e after)
    (h : enabled = true) : exec i s = .next after.eventDone := by
  rw [hexec, h, takeEvent_true]

/-! ### The resets (R180, R181, R184) -/

theorem exec_coldReset_of_powered (hp : s.env.power = .on) :
    exec .coldReset s = .next s.enterColdReset.eventDone :=
  exec_next_of_takeEvent rfl ((corePowered_iff s).2 hp)

/-- Settles O35. -/
theorem coldResetEffect : Obligations.ColdResetEffect := by
  intro s hp
  rw [exec_coldReset_of_powered hp, ← hp]
  rfl

/-- Settles O36. -/
theorem warmResetEffect : Obligations.WarmResetEffect := fun _ hp => exec_warmReset_of_powered hp

/-- Settles O38: where there is a Software Lock there is no ARMv8.3-DoPD (R13). -/
theorem externalDebugResetEffect : Obligations.ExternalDebugResetEffect := by
  intro s
  simp only [exec, execExtDebugReset]
  cases hl : s.cfg.haveSoftwareLock with
  | false => simp only [Bool.false_and, Bool.or_false]; rfl
  | true =>
    have hh : s.cfg.haveDopd = false := by
      by_contra h
      simp [s.cfg.haveSoftwareLock_of_haveDopd (by simpa using h)] at hl
    simp only [hh, Bool.or_true]
    rfl

/-! ### The power of the core (R186, R187) -/

theorem exec_corePowerDown_of_canPowerDown {k : DownTo} (h : s.canPowerDown k = true) :
    exec (.corePowerDown k) s =
      .next (s.withEnv { s.env with power := powerAfterDown k }).eventDone :=
  exec_next_of_takeEvent rfl h

/-- Settles O39. -/
theorem corePowerDownEffect : Obligations.CorePowerDownEffect := by
  refine fun s => ⟨fun hp => ?_, fun hp hc => ?_, fun hc => ?_⟩
  · exact exec_corePowerDown_of_canPowerDown ((canPowerDown_iff s _).2 (.inl ⟨rfl, hp⟩))
  · exact exec_corePowerDown_of_canPowerDown ((canPowerDown_iff s _).2 (.inr ⟨rfl, hp, hc⟩))
  · have hdown : s.canPowerDown .off = false := by
      rw [← Bool.not_eq_true, canPowerDown_iff]
      simp [hc]
    simp only [exec, execCorePowerDown, hdown, takeEvent_false]

/-- Settles O40: that the reset was not entered double locked is the one difference. -/
theorem powerUpLostIsAColdReset : Obligations.PowerUpLostIsAColdReset := fun _ hp =>
  ⟨_, exec_coldReset_of_powered rfl, exec_corePowerUp_lost hp⟩

/-- Settles O41. -/
theorem powerUpRestoredKeepsTheBits : Obligations.PowerUpRestoredKeepsTheBits := fun _ hp =>
  exec_corePowerUp_restored hp

/-! ### Debug state (R177, R178) -/

/-- Settles O42: the Double Lock asks that the PE is not in Debug state (R44). -/
theorem debugEntryEffect : Obligations.DebugEntryEffect := by
  intro s hp hr hh
  have henabled : (s.softwareRuns && !s.env.halted) = true := by
    rw [(softwareRuns_iff s).2 ⟨hp, hr⟩, hh]; rfl
  refine ⟨_, exec_next_of_takeEvent rfl henabled, rfl, Bool.eq_false_iff.2 fun hd => ?_⟩
  cases not_halted_of_doubleLocked hd

/-- Settles O43: of the four terms of the Double Lock (R44) the exit makes the last one true. -/
theorem debugExitEffect : Obligations.DebugExitEffect := by
  intro s hp hh
  have henabled : (s.corePowered && s.env.halted) = true := by
    rw [(corePowered_iff s).2 hp, hh]; rfl
  refine ⟨_, exec_next_of_takeEvent rfl henabled, rfl, (doubleLocked_iff _).trans ?_⟩
  exact ⟨fun ⟨hl, ho, hc, _⟩ => ⟨hl, ho, hc⟩, fun ⟨hl, ho, hc⟩ => ⟨hl, ho, hc, rfl⟩⟩

/-! ### The lock and power request bits (R189, R193, R194) -/

theorem exec_oslockSw_of_softwareRuns (b : Bool) (h : s.softwareRuns = true) :
    exec (.oslockSw b) s = .next (s.withEnv { s.env with oslk := b }).eventDone :=
  exec_next_of_takeEvent rfl h

theorem exec_osdlrWrite_of_softwareRuns (b : Bool) (h : s.softwareRuns = true) :
    exec (.osdlrWrite b) s = .next
      (s.withEnv { s.env with
        osdlrDlk := if s.cfg.doubleLock = true then b else s.env.osdlrDlk }).eventDone := by
  refine (exec_next_of_takeEvent rfl h).trans ?_
  split_ifs <;> rfl

/-- Settles O46. -/
theorem lockAndPowerRequestWrites : Obligations.LockAndPowerRequestWrites := by
  refine fun b s hp => ⟨fun hr => ?_, exec_corenpdrqWrite_of_powered b hp⟩
  have hruns := (softwareRuns_iff s).2 ⟨hp, hr⟩
  exact ⟨exec_oslockSw_of_softwareRuns b hruns, exec_osdlrWrite_of_softwareRuns b hruns⟩

end Sys2Proof.Machine
end

section
/-! PROOFS of the family 42_indirect_updates.md, part 3: the failed accesses behind the events (O44, O45),
the permissions (O47) and the trace unit's power (O48). -/

namespace Sys2Proof.Machine

variable {s : State} {acc : AccessAttr}

/-! ### Failed accesses to Performance Monitors and trace unit registers (R191, R192) -/

/-- Both accesses behind the event are denied, so the drawn one is. -/
theorem not_allows_failingAccess {p : Permission} {ns : Bool}
    (h : p.allows { memoryMapped := false, nonSecure := ns } = false ∧
      p.allows { memoryMapped := true, nonSecure := ns } = false) :
    p.allows (s.failingAccess ns) = false := by
  rw [State.failingAccess]
  cases s.draw .failMemoryMapped with
  | false => exact h.1
  | true => exact h.2

theorem pmuAccessFails_iff (s : State) (acc : AccessAttr) :
    s.pmuAccessFails acc = true ↔
      s.env.power ≠ .on ∨ s.doubleLocked = true ∨ s.env.oslk = true ∨
        s.env.allowPmu.allows acc = false := by
  simp only [State.pmuAccessFails, State.osLocked, State.pmuAllowed, Bool.or_eq_true,
    Bool.not_eq_true', corePowered_eq_false]
  tauto

theorem traceAccessFails_iff (s : State) (acc : AccessAttr) :
    s.traceAccessFails acc = true ↔
      s.env.oslk = true ∨ s.env.tracePowered = false ∨ s.env.allowTrace.allows acc = false := by
  simp only [State.traceAccessFails, State.osLocked, State.traceAllowed, Bool.or_eq_true,
    Bool.not_eq_true']
  tauto

/-- A sticky error bit after a failure, with its cases under other names (R191, R192): `kept` where the
bit stays, `unsure` where it is a draw. -/
theorem stickyAfterFailure_eq_of_iff {old never denied undecided drawn : Bool} {kept unsure : Prop}
    [Decidable kept] [Decidable unsure] (hkept : never = true ∨ denied = false ↔ kept)
    (hunsure : undecided = true ↔ unsure) :
    (if never then old else stickyAfterFailure old denied undecided drawn) =
      if kept then old else if unsure then old || drawn else true := by
  simp only [← hkept, ← hunsure, stickyAfterFailure, Bool.not_eq_true', ite_or]

theorem spmadAfterFailure_eq (s : State) (acc : AccessAttr) :
    s.spmadAfterFailure acc =
      if s.env.power ≠ .on ∨ s.env.allowPmu.allows acc = true then s.st.spmad
      else if s.doubleLocked = true ∨ s.env.oslk = true ∨ (s.cfg.v84 = true ∧ acc.nonSecure = false)
      then s.st.spmad || Config.drawBit s.draws (.maybeSet .spmad)
      else true := by
  refine stickyAfterFailure_eq_of_iff ?_ ?_
  · simp only [Bool.not_eq_true', Bool.not_eq_false', corePowered_eq_false, State.pmuAllowed]
  · simp only [Bool.or_eq_true, Bool.and_eq_true, Bool.not_eq_true', or_assoc, State.osLocked]

theorem stadAfterFailure_eq (s : State) (acc : AccessAttr) :
    s.stadAfterFailure acc =
      if s.cfg.trbe = false ∨ s.env.power ≠ .on ∨ acc.nonSecure = false ∨
        s.env.allowTrace.allows acc = true then s.st.stad
      else if s.env.oslk = true ∨ s.env.tracePowered = false
      then s.st.stad || Config.drawBit s.draws (.maybeSet .stad)
      else true := by
  refine stickyAfterFailure_eq_of_iff ?_ ?_
  · simp only [Bool.or_eq_true, Bool.not_eq_true', Bool.not_eq_false', or_assoc,
      corePowered_eq_false, State.traceAllowed]
  · simp only [Bool.or_eq_true, Bool.not_eq_true', State.osLocked]

/-- Settles O44. -/
theorem pmuAccessFailEffect : Obligations.PmuAccessFailEffect := by
  intro ns s h
  have hfails : s.pmuAccessFails (s.failingAccess ns) = true :=
    (pmuAccessFails_iff s _).2 (h.imp_right (.imp_right (.imp_right not_allows_failingAccess)))
  refine (exec_next_of_takeEvent rfl hfails).trans ?_
  rw [spmadAfterFailure_eq]
  rfl

/-- Settles O45. -/
theorem traceAccessFailEffect : Obligations.TraceAccessFailEffect := by
  intro ns s h
  have hfails : s.traceAccessFails (s.failingAccess ns) = true :=
    (traceAccessFails_iff s _).2 (h.imp_right (.imp_right not_allows_failingAccess))
  refine (exec_next_of_takeEvent rfl hfails).trans ?_
  rw [stadAfterFailure_eq]
  rfl

/-! ### The permissions (R197) -/

theorem allows_ofBits (secure nonSecure : Bool) (acc : AccessAttr) :
    (Permission.ofBits secure nonSecure).allows acc = if acc.nonSecure then nonSecure else secure := by
  obtain ⟨mm, ns⟩ := acc
  cases mm <;> cases ns <;> rfl

/-- What EPMAD and EDAD report of such a permission: with ARMv8.4-Debug the Non-secure answer, before it
the answer to the reading access (D8). -/
theorem allows_ofBits_reported (secure nonSecure v84 : Bool) (acc : AccessAttr) :
    (Permission.ofBits secure nonSecure).allows (if v84 then asNonSecure acc else acc) =
      if v84 || acc.nonSecure then nonSecure else secure := by
  cases v84 with
  | true => exact allows_ofBits secure nonSecure (asNonSecure acc)
  | false => exact allows_ofBits secure nonSecure acc

/-- The state after AUTH_CHANGE. -/
def State.authChanged (s : State) (m : AuthBits) : State :=
  (s.withEnv
    { s.env with
      allowDebug := .ofBits m.dbgS m.dbgNs
      allowPmu := .ofBits m.pmuS m.pmuNs
      allowTrace := .ofBits m.traceS m.traceNs }).eventDone

theorem exec_authChange (m : AuthBits) (s : State) :
    exec (.authChange m) s = .next (s.authChanged m) := rfl

/-- Settles O47: the read is one that returns every fact. -/
theorem authChangeShowsInTheNextRead : Obligations.AuthChangeShowsInTheNextRead := by
  intro m acc s
  refine ⟨_, exec_authChange m s, rfl, rfl,
    fun a => ⟨allows_ofBits _ _ a, allows_ofBits _ _ a, allows_ofBits _ _ a⟩,
    fun hp hr hd ho => ?_⟩
  obtain ⟨u, hu, hfact⟩ := runningReadReturnsEveryFact acc (s.authChanged m) hp hr hd ho
  refine ⟨u, hu, (hfact .etad).trans (congrArg some ?_), (hfact .epmad).trans (congrArg some ?_),
    (hfact .edad).trans (congrArg some ?_)⟩
  · exact congrArg (fun a => s.cfg.trbe && !a) (allows_ofBits m.traceS m.traceNs (asNonSecure acc))
  · exact congrArg (! ·) (allows_ofBits_reported m.pmuS m.pmuNs s.cfg.v84 acc)
  · exact congrArg (! ·) (allows_ofBits_reported m.dbgS m.dbgNs s.cfg.v84 acc)

end Sys2Proof.Machine
end

section
/-! PROOFS of the family 42_indirect_updates.md, part 4: the trace unit's power (O48). Writing it before a
step or after it is the same, for every label that does not ask it. -/

namespace Sys2Proof.Machine

variable {s : State} {i : Instr}

/-- The state with another answer of `IsTraceCorePowered()` (R60). -/
def State.setTracePowered (s : State) (on : Bool) : State :=
  { s with env := { s.env with tracePowered := on } }

/-- An outcome with its next state, if there is one, changed. -/
def mapNext (f : State → State) :
    Host.Outcome State Fault Refusal → Host.Outcome State Fault Refusal
  | .next t => .next (f t)
  | .fault e => .fault e
  | .refused why => .refused why

@[simp] theorem mapNext_next (f : State → State) (t : State) :
    mapNext f (.next t) = .next (f t) := rfl

theorem setTracePowered_ite (c : Prop) [Decidable c] (t u : State) (on : Bool) :
    (if c then t else u).setTracePowered on =
      if c then t.setTracePowered on else u.setTracePowered on :=
  apply_ite (·.setTracePowered on) c t u

theorem setTracePowered_takeEvent (enabled : Bool) (e : GuardedEvent) (after : State) (on : Bool) :
    mapNext (·.setTracePowered on) (takeEvent enabled e after) =
      takeEvent enabled e (after.setTracePowered on) := by
  cases enabled <;> rfl

theorem breakWatchAccess_setTracePowered (s : State) (on : Bool) (op : RegOp) (acc : AccessAttr) :
    (s.breakWatchAccess op acc).setTracePowered on =
      (s.setTracePowered on).breakWatchAccess op acc := by
  simp only [State.breakWatchAccess, setTracePowered_ite]
  cases op <;> rfl

/-- R192: the OS Lock alone meets the precondition of TRACE_ACCESS_FAIL and its overlap test. -/
theorem exec_traceAccessFail_of_osLocked (ho : s.env.oslk = true) (ns : Bool) :
    exec (.traceAccessFail ns) s = .next
      (s.withSt { s.st with
        stad :=
          if !s.cfg.trbe || !s.corePowered || !ns then s.st.stad
          else stickyAfterFailure s.st.stad (!s.traceAllowed (s.failingAccess ns)) true
            (s.draw (.maybeSet .stad)) }).tick.eventDone := by
  refine (exec_next_of_takeEvent rfl ((traceAccessFails_iff s _).2 (.inl ho))).trans ?_
  have hlocked : (s.osLocked || !s.env.tracePowered) = true := by rw [State.osLocked, ho]; rfl
  rw [State.stadAfterFailure, hlocked]
  rfl

/-- By the label: an access by the branches of its rule, an event by its precondition and its effect,
none of which asks the trace unit's power. -/
theorem exec_setTracePowered (on : Bool) (hi : ∀ b, i ≠ .tracePower b)
    (ho : ∀ ns, i = .traceAccessFail ns → s.env.oslk = true) :
    mapNext (·.setTracePowered on) (exec i s) = exec i (s.setTracePowered on) := by
  cases i with
  | edprsrRd => rw [exec, execEdprsrRd, mapNext_next, setTracePowered_ite]; rfl
  | edprsrWr => rw [exec, execEdprsrWr, mapNext_next, setTracePowered_ite]; rfl
  | oslarWr => simp only [exec, execOslarWr, mapNext_next, setTracePowered_ite]; rfl
  | edlarWr => simp only [exec, execEdlarWr, mapNext_next, setTracePowered_ite]; rfl
  | dbgbvrLo n op acc | dbgbvrHi n op acc | dbgbcr n op acc | dbgwvrLo n op acc
  | dbgwvrHi n op acc | dbgwcr n op acc =>
    exact congrArg Host.Outcome.next (breakWatchAccess_setTracePowered s on op acc)
  | coldReset | warmReset | resetRelease | corePowerDown | debugEntry | debugExit | pmuAccessFail
  | oslockSw | corenpdrqWrite => exact setTracePowered_takeEvent _ _ _ on
  | corePowerUp =>
    rw [exec, execCorePowerUp, setTracePowered_takeEvent, setTracePowered_ite]; rfl
  | osdlrWrite =>
    rw [exec, execOsdlrWrite, setTracePowered_takeEvent, setTracePowered_ite]; rfl
  | extDebugReset => rw [exec, execExtDebugReset, mapNext_next, setTracePowered_ite]; rfl
  | traceAccessFail ns =>
    have hlocked : s.env.oslk = true := ho ns rfl
    rw [exec_traceAccessFail_of_osLocked hlocked,
      exec_traceAccessFail_of_osLocked (s := s.setTracePowered on) hlocked]
    rfl
  | authChange => rfl
  | tracePower b => exact absurd rfl (hi b)

/-- Whatever a read does, it keeps the inputs. -/
theorem exists_exec_edprsrRd (acc : AccessAttr) (s : State) :
    ∃ r st k, exec (.edprsrRd acc) s = .next { s with st := st, response := r, draws := k } := by
  cases h : s.registerInaccessible with
  | true =>
    obtain ⟨hh, hp⟩ := (registerInaccessible_iff s).1 h
    exact ⟨_, _, _, exec_edprsrRd_fails acc s hh hp⟩
  | false =>
    exact ⟨_, _, _, exec_edprsrRd_permitted acc s ((registerInaccessible_eq_false_iff s).1 h)⟩

/-- Settles O48: the read is one of the labels that do not ask it. -/
theorem tracePowerEffect : Obligations.TracePowerEffect := by
  refine fun on s => ⟨rfl, fun acc => ?_, fun i hi ho => ⟨fun t h => ?_, fun why h => ?_⟩⟩
  · obtain ⟨r, st, k, h⟩ := exists_exec_edprsrRd acc s
    have hread := exec_setTracePowered (i := .edprsrRd acc) (s := s) on (fun _ => nofun)
      (fun _ => nofun)
    exact ⟨r, st, k, h, hread.symm.trans (congrArg _ h)⟩
  · exact (exec_setTracePowered on hi ho).symm.trans (congrArg _ h)
  · exact (exec_setTracePowered on hi ho).symm.trans (congrArg _ h)

end Sys2Proof.Machine
end

section
/-! PROOFS of the family 42_indirect_updates.md, part 5: which steps change an input (O51).
The statement is a structure with a field for each input, so that a label proves the fields of the inputs
it writes and no others. -/

namespace Sys2Proof.Machine

variable {s t : State} {i : Instr}

/-- If the step from `s` to `t` with the label `i` changed an input, R171 lists `i` in the row of that
input. An input that the step leaves as it was, by definition, needs no proof. -/
structure ListedInputChanges (i : Instr) (s t : State) : Prop where
  power : t.env.power ≠ s.env.power → (∃ k, i = .corePowerDown k) ∨ ∃ lost, i = .corePowerUp lost :=
    by exact absurd rfl
  inReset : t.env.inReset ≠ s.env.inReset →
    i = .coldReset ∨ i = .warmReset ∨ i = .resetRelease ∨ i = .corePowerUp true := by exact absurd rfl
  resetEnteredDlk : t.env.resetEnteredDlk ≠ s.env.resetEnteredDlk →
    i = .coldReset ∨ i = .warmReset ∨ i = .corePowerUp true := by exact absurd rfl
  halted : t.env.halted ≠ s.env.halted →
    i = .coldReset ∨ i = .warmReset ∨ i = .corePowerUp true ∨ i = .debugEntry ∨ i = .debugExit :=
    by exact absurd rfl
  osdlrDlk : t.env.osdlrDlk ≠ s.env.osdlrDlk →
    i = .coldReset ∨ i = .warmReset ∨ i = .corePowerUp true ∨ ∃ b, i = .osdlrWrite b :=
    by exact absurd rfl
  corenpdrq : t.env.corenpdrq ≠ s.env.corenpdrq →
    i = .coldReset ∨ (∃ lost, i = .corePowerUp lost) ∨ ∃ b, i = .corenpdrqWrite b :=
    by exact absurd rfl
  oslk : t.env.oslk ≠ s.env.oslk →
    i = .coldReset ∨ i = .corePowerUp true ∨ (∃ b, i = .oslockSw b) ∨
      ∃ data acc, i = .oslarWr data acc := by exact absurd rfl
  slk : t.env.slk ≠ s.env.slk → i = .extDebugReset ∨ ∃ data acc, i = .edlarWr data acc :=
    by exact absurd rfl
  allowDebug : t.env.allowDebug ≠ s.env.allowDebug →
    i = .coldReset ∨ i = .warmReset ∨ i = .corePowerUp true ∨ ∃ m, i = .authChange m :=
    by exact absurd rfl
  allowPmu : t.env.allowPmu ≠ s.env.allowPmu →
    i = .coldReset ∨ i = .warmReset ∨ i = .corePowerUp true ∨ ∃ m, i = .authChange m :=
    by exact absurd rfl
  allowTrace : t.env.allowTrace ≠ s.env.allowTrace →
    i = .coldReset ∨ i = .warmReset ∨ i = .corePowerUp true ∨ ∃ m, i = .authChange m :=
    by exact absurd rfl
  tracePowered : t.env.tracePowered ≠ s.env.tracePowered → ∃ on, i = .tracePower on :=
    by exact absurd rfl

theorem listedInputChanges_breakWatchAccess (op : RegOp) (acc : AccessAttr) :
    ListedInputChanges i s (s.breakWatchAccess op acc) := by
  obtain ⟨-, heq⟩ | ⟨-, -, heq⟩ | ⟨-, -, heq⟩ := breakWatchAccess_cases s op acc <;> rw [heq] <;>
    exact {}

/-- By the outcomes of `exec`: each names the inputs that its rule writes. -/
theorem exec_listedInputChanges (h : exec i s = .next t) : ListedInputChanges i s t := by
  apply exec_cases (P := fun i u => ListedInputChanges i s u) (h := h)
  case breakWatch => exact fun _ _ op acc _ => listedInputChanges_breakWatchAccess op acc
  case oslar => exact fun _ _ _ _ => { oslk := by simp }
  case edlar => exact fun _ _ _ _ _ => { slk := by simp }
  case coldReset =>
    exact fun _ =>
      { inReset := by simp, resetEnteredDlk := by simp, halted := by simp, osdlrDlk := by simp,
        corenpdrq := by simp, oslk := by simp, allowDebug := by simp, allowPmu := by simp,
        allowTrace := by simp }
  case warmReset =>
    exact fun _ =>
      { inReset := by simp, resetEnteredDlk := by simp, halted := by simp, osdlrDlk := by simp,
        allowDebug := by simp, allowPmu := by simp, allowTrace := by simp }
  case resetRelease => exact fun _ _ => { inReset := by simp }
  case extDebugReset => exact { slk := by simp }
  case corePowerDown => exact fun _ _ => { power := by simp }
  case powerUpLost =>
    exact fun _ =>
      { power := by simp, inReset := by simp, resetEnteredDlk := by simp, halted := by simp,
        osdlrDlk := by simp, corenpdrq := by simp, oslk := by simp, allowDebug := by simp,
        allowPmu := by simp, allowTrace := by simp }
  case powerUpRestored => exact fun _ => { power := by simp, corenpdrq := by simp }
  case debugEntry => exact fun _ _ => { halted := by simp }
  case debugExit => exact fun _ _ => { halted := by simp }
  case oslockSw => exact fun _ _ => { oslk := by simp }
  case osdlrWrite => exact fun _ _ _ => { osdlrDlk := by simp }
  case corenpdrqWrite => exact fun _ _ => { corenpdrq := by simp }
  case authChange =>
    exact fun _ => { allowDebug := by simp, allowPmu := by simp, allowTrace := by simp }
  case tracePower => exact fun _ => { tracePowered := by simp }
  all_goals intros; exact {}

/-- Settles O51; the statement joins the three permissions. -/
theorem onlyTheseStepsChangeAnInput : Obligations.OnlyTheseStepsChangeAnInput := by
  intro i s t h
  have hl := exec_listedInputChanges h
  exact ⟨hl.power, hl.inReset, hl.resetEnteredDlk, hl.halted, hl.osdlrDlk, hl.corenpdrq, hl.oslk,
    hl.slk, fun ha => ha.elim hl.allowDebug (·.elim hl.allowPmu hl.allowTrace), hl.tracePowered⟩

end Sys2Proof.Machine
end

section
/-! PROOFS of the family 42_indirect_updates.md, part 6: what the reads after a change show: the OS Lock
(O27), a failed access (O33) and a powerdown (O59). -/

namespace Sys2Proof.Machine

variable {s : State} {i : Instr} {acc : AccessAttr}

/-! ### The OS Lock (R195) -/

theorem exec_oslarWr_writes (data : Word) (hp : s.env.power = .on) (hd : s.doubleLocked = false)
    (ha : s.env.allowDebug.allows acc = true ∨ s.cfg.oslarErrOnEdad = false)
    (hs : s.softwareLocked acc = false) :
    exec (.oslarWr data acc) s =
      .next ((s.withEnv { s.env with oslk := oslarDataBit data }).respond .ok) := by
  rw [exec_oslarWr_permitted hp hd ((oslarDenied_eq_false_iff s acc).2 ha), hs]
  rfl

/-- Out of reset a read shows the OS Lock, which no lock hides but the Double Lock (R133). -/
theorem exists_read_oslk (acc : AccessAttr) (hp : s.env.power = .on) (hr : s.env.inReset = false)
    (hd : s.doubleLocked = false) :
    ∃ t, exec (.edprsrRd acc) s = .next t ∧ t.response.field? .oslk = some s.env.oslk := by
  obtain ⟨t, ht, hbit⟩ := exists_read (acc := acc) (.inr hp)
  have hoslk : s.fieldBit acc .oslk = s.env.oslk := by
    simp [fieldBit_of_running hp hr hd, State.osLockHides, State.fieldFact]
  exact ⟨t, ht, (hbit .oslk).trans (congrArg some hoslk)⟩

/-- Settles O27: the Double Lock does not ask the OS Lock, so the read after the write is as free. -/
theorem permittedOslarWriteSetsTheOsLock : Obligations.PermittedOslarWriteSetsTheOsLock := by
  intro data acc acc' s hp hd ha hs
  have hwrite := exec_oslarWr_writes data hp hd ha hs
  refine ⟨hwrite, fun hr => ?_⟩
  obtain ⟨t, ht, hoslk⟩ := exists_read_oslk
    (s := (s.withEnv { s.env with oslk := oslarDataBit data }).respond .ok) acc' hp hr hd
  exact ⟨t, (runSteps_cons _ _ _ _ hwrite).trans (runSteps_cons _ _ _ _ ht), hoslk⟩

/-! ### A read and the one after it -/

/-- The state after a read with the core powered and neither lock in the way (R141). -/
def State.afterClearingRead (s : State) (acc : AccessAttr) : State :=
  { s with st := s.clearedLatches, response := .value (s.readValue acc), draws := s.draws + 1 }

/-- A read that clears shows a field of the state before it, the next read shows the field of the state
it left. -/
theorem exists_two_reads (f : Field) (acc' : AccessAttr) (hp : s.env.power = .on)
    (hd : s.doubleLocked = false) (hs : s.softwareLocked acc = false) :
    exec (.edprsrRd acc) s = .next (s.afterClearingRead acc) ∧
    (s.afterClearingRead acc).response.field? f = some (s.fieldBit acc f) ∧
    ∃ w, exec (.edprsrRd acc') (s.afterClearingRead acc) = .next w ∧
      w.response.field? f = some ((s.afterClearingRead acc).fieldBit acc' f) := by
  obtain ⟨w, hw, hbit⟩ := exists_read (s := s.afterClearingRead acc) (acc := acc') (.inr hp)
  exact ⟨exec_edprsrRd_clears hp hd hs, field?_readValue s acc f, w, hw, hbit f⟩

/-! ### A failed access (R190) -/

theorem debugRegisterAccess_cases (h : debugRegisterAccess i = some acc) :
    (∃ data, i = .oslarWr data acc) ∨ ∃ n op, i ∈ breakWatchRows n op acc := by
  cases i with
  | oslarWr data => cases h; exact .inl ⟨data, rfl⟩
  | dbgbvrLo n op | dbgbvrHi n op | dbgbcr n op | dbgwvrLo n op | dbgwvrHi n op | dbgwcr n op =>
    cases h; exact .inr ⟨n, op, by simp⟩
  | edprsrRd | edprsrWr | edlarWr | coldReset | warmReset | resetRelease | extDebugReset
  | corePowerDown | corePowerUp | debugEntry | debugExit | pmuAccessFail | traceAccessFail | oslockSw
  | osdlrWrite | corenpdrqWrite | authChange | tracePower => cases h

/-- R190, case (a): the permission is the only cause of the failure, and SDAD is set. -/
theorem exec_deniedAccess (hi : debugRegisterAccess i = some acc) (hp : s.env.power = .on)
    (hd : s.doubleLocked = false) (ho : s.env.oslk = false)
    (ha : s.env.allowDebug.allows acc = false) (he : s.cfg.oslarErrOnEdad = true)
    (hv : s.cfg.v84 = false ∨ acc.nonSecure = true) :
    exec i s =
      .next { s with st := { s.st with sdad := true }, response := .error, draws := s.draws + 1 } := by
  have hsecure : ¬(s.cfg.v84 = true ∧ acc.nonSecure = false) := by
    obtain hv | hv := hv <;> simp [hv]
  obtain ⟨data, rfl⟩ | ⟨n, op, hrow⟩ := debugRegisterAccess_cases hi
  · rw [failedOslarWriteAndSdad data acc s (.inr (.inr ⟨ha, he⟩))]
    simp [hp, ha, he, hd, hsecure]
  · rw [failedBreakpointWatchpointAccessAndSdad n op acc s (.inr (.inr (.inr ha))) i hrow]
    simp [hp, ha, hd, ho, hsecure]

/-- With nothing hidden a read shows SDAD (R130). -/
theorem fieldBit_sdad_of_running (hp : s.env.power = .on) (hr : s.env.inReset = false)
    (hd : s.doubleLocked = false) (ho : s.env.oslk = false) : s.fieldBit acc .sdad = s.st.sdad :=
  fieldBit_eq_fieldFact hp hr hd (.inl ho) .sdad

/-- Settles O33: the failure sets SDAD, and the read that shows it clears it. -/
theorem failedAccessIsReportedOnce : Obligations.FailedAccessIsReportedOnce := by
  intro i acc acc' acc'' s hi hp hr hd ho ha he hv hs
  have hfail := exec_deniedAccess hi hp hd ho ha he hv
  obtain ⟨hu, hfirst, w, hw, hsecond⟩ := exists_two_reads (acc := acc')
    (s := { s with st := { s.st with sdad := true }, response := .error, draws := s.draws + 1 })
    .sdad acc'' hp hd hs
  exact ⟨_, _, w, hfail, rfl, hu,
    hfirst.trans (congrArg some (fieldBit_sdad_of_running hp hr hd ho)), hw,
    hsecond.trans (congrArg some (fieldBit_sdad_of_running hp hr hd ho))⟩

/-! ### A powerdown (R188) -/

theorem powerAfterDown_ne_on (k : DownTo) : powerAfterDown k ≠ .on := by
  cases k <;> nofun

theorem canPowerDown_of_powered {k : DownTo} (hp : s.env.power = .on)
    (hk : k = .off → s.env.corenpdrq = false) : s.canPowerDown k = true := by
  rw [canPowerDown_iff]
  cases k with
  | lowPower => exact .inl ⟨rfl, hp⟩
  | off => exact .inr ⟨rfl, by simp [hp], hk rfl⟩

/-- With the Double Lock unlocked a read shows SPD, in reset too (R137). -/
theorem fieldBit_spd_of_unlocked (hp : s.env.power = .on) (hd : s.doubleLocked = false) :
    s.fieldBit acc .spd = s.st.spd :=
  fieldBit_of_known (fieldView_spd_of_unlocked hp hd)

/-- The state after CORE_POWER_DOWN. -/
def State.poweredDown (s : State) (k : DownTo) : State :=
  (s.withEnv { s.env with power := powerAfterDown k }).eventDone

/-- The state after a power up that lost the state and the release of its reset. -/
def State.restarted (s : State) : State :=
  (s.powerUpLost.withEnv { s.powerUpLost.env with inReset := false }).eventDone

theorem runSteps_restart {k : DownTo} (hk : s.canPowerDown k = true) (is : List Instr) :
    s.runSteps (.corePowerDown k :: .corePowerUp true :: .resetRelease :: is) =
      (s.poweredDown k).restarted.runSteps is :=
  calc
    _ = (s.poweredDown k).runSteps (.corePowerUp true :: .resetRelease :: is) :=
      runSteps_cons _ _ _ _ (exec_corePowerDown_of_canPowerDown hk)
    _ = (s.poweredDown k).powerUpLost.eventDone.runSteps (.resetRelease :: is) :=
      runSteps_cons _ _ _ _ (exec_corePowerUp_lost (powerAfterDown_ne_on k))
    _ = (s.poweredDown k).restarted.runSteps is :=
      runSteps_cons _ _ _ _ (exec_resetRelease_of_inReset rfl rfl)

/-- Settles O59: a Cold reset sets SPD and unlocks the Double Lock, and the first read clears SPD. -/
theorem lifeOfSpd : Obligations.LifeOfSpd := by
  intro k acc s hp hc _ hs
  have hk := canPowerDown_of_powered hp hc
  refine ⟨?_, fun ho => ?_⟩
  · obtain ⟨ht, hfirst, u, hu, hsecond⟩ := exists_two_reads (s := (s.poweredDown k).restarted)
      (acc := acc) .spd acc rfl rfl hs
    exact ⟨_, (runSteps_restart hk _).trans (runSteps_cons _ _ _ _ ht),
      hfirst.trans (congrArg some (fieldBit_spd_of_unlocked rfl rfl)), u, hu,
      hsecond.trans (congrArg some (fieldBit_spd_of_unlocked rfl rfl))⟩
  · have hunlocked : (s.poweredDown k).powerUpRestored.eventDone.doubleLocked = false := by
      refine Bool.eq_false_iff.2 fun hd => ?_
      obtain ⟨-, hdlk, -⟩ := (doubleLocked_iff _).1 hd
      exact absurd (hdlk.symm.trans ho) nofun
    obtain ⟨t, ht, hbit⟩ := exists_read (s := (s.poweredDown k).powerUpRestored.eventDone)
      (acc := acc) (.inr rfl)
    refine ⟨t, ?_, (hbit .spd).trans (congrArg some (fieldBit_spd_of_unlocked rfl hunlocked))⟩
    rw [runSteps_cons _ _ _ _ (exec_corePowerDown_of_canPowerDown hk),
      runSteps_cons _ _ _ _ (exec_corePowerUp_restored (powerAfterDown_ne_on k))]
    exact runSteps_cons _ _ _ _ ht

end Sys2Proof.Machine
end

section
/-! PROOFS of the family 60_exceptions.md, part 1: the reading access's Security state (O24). With
ARMv8.4-Debug every field rule that asks an oracle asks it for a Non-secure access. -/

namespace Sys2Proof.Machine

variable {s : State}

/-- EPMAD and EDAD are the fields whose rule depends on the debug version here; ETAD reports the
Non-secure status in every version, and the others ask nothing of the access. -/
theorem fieldView_asNonSecure (hv : s.cfg.v84 = true) (acc : AccessAttr) (f : Field) :
    s.fieldView (asNonSecure acc) f = s.fieldView acc f := by
  cases f with
  | epmad => simp [State.fieldView, State.epmadView, asNonSecure, hv]
  | edad => simp [State.fieldView, State.edadView, asNonSecure, hv]
  | stad | etad | sdr | spmad | sdad | dlk | oslk | halted | sr | r | spd | pu => rfl

theorem readValue_asNonSecure (hv : s.cfg.v84 = true) (acc : AccessAttr) :
    s.readValue (asNonSecure acc) = s.readValue acc :=
  congrArg assembleWord <| funext fun f =>
    congrArg (BitView.resolve · (s.draw (.read f))) (fieldView_asNonSecure hv acc f)

/-- The Software Lock asks `memory_mapped` alone (R46), in every debug version. -/
theorem latchesAfterRead_asNonSecure (s : State) (acc : AccessAttr) :
    s.latchesAfterRead (asNonSecure acc) = s.latchesAfterRead acc := rfl

theorem exec_edprsrRd_asNonSecure (hv : s.cfg.v84 = true) (acc : AccessAttr) :
    exec (.edprsrRd (asNonSecure acc)) s = exec (.edprsrRd acc) s := by
  cases hr : s.registerInaccessible with
  | true =>
    obtain ⟨hd, hp⟩ := (registerInaccessible_iff s).1 hr
    rw [exec_edprsrRd_fails _ s hd hp, exec_edprsrRd_fails _ s hd hp]
  | false =>
    have h := (registerInaccessible_eq_false_iff s).1 hr
    rw [exec_edprsrRd_permitted _ s h, exec_edprsrRd_permitted _ s h, readValue_asNonSecure hv,
      latchesAfterRead_asNonSecure]

/-- Settles O24: a read and its Non-secure counterpart have the same outcome. -/
theorem readIgnoresSecurityWithV84 : Obligations.ReadIgnoresSecurityWithV84 := fun _ _ _ hv =>
  (exec_edprsrRd_asNonSecure hv _).symm

end Sys2Proof.Machine
end

section
/-! PROOFS of the family 60_exceptions.md, part 2: the error response (O34). The table of R201 is tied to
the conditions that the model tests; then every step either completes or ends in one of two ways. -/

namespace Sys2Proof.Machine

variable {s t : State} {i : Instr} {acc : AccessAttr}

/-! ### The table of R201 -/

theorem haveDopd_and_unpowered_eq (s : State) :
    (s.cfg.haveDopd && s.env.power != .on) = s.registerInaccessible := by
  rw [bne, power_beq_on, Bool.and_comm]
  rfl

theorem accessError_oslarWr (data : Word) (acc : AccessAttr) :
    s.accessError (.oslarWr data acc) =
      (!s.corePowered || s.doubleLocked || s.oslarDenied acc) := by
  simp only [State.accessError, power_beq_on, State.oslarDenied, State.debugAllowed, Bool.not_and,
    Bool.not_or, Bool.not_not]

theorem breakWatchError_eq (s : State) (acc : AccessAttr) :
    s.breakWatchError acc = s.breakWatchFails acc := by
  simp only [State.breakWatchError, State.breakWatchFails, State.osLocked, State.debugAllowed,
    power_beq_on, Bool.not_and, Bool.not_not]
  ac_rfl

theorem accessError_of_breakWatchRow {n : Nat} {op : RegOp} (hi : i ∈ breakWatchRows n op acc) :
    s.accessError i = s.breakWatchFails acc := by
  rw [← breakWatchError_eq]
  simp only [List.mem_cons, List.not_mem_nil, or_false] at hi
  obtain rfl | rfl | rfl | rfl | rfl | rfl := hi <;> rfl

/-! ### How a step ends -/

/-- A step completes, or it fails at a register outside `AllowExternalDebugAccess()` with the error
response alone, or at one governed by it and R190 decides SDAD. -/
inductive ErrorOutcome (s t : State) (i : Instr) : Prop
  | completes (hlisted : s.accessError i = false) (hresponse : t.response ≠ .error)
  | registerFails (hlisted : s.accessError i = true) (ht : t = s.errorResponse)
  | debugAccessFails (acc : AccessAttr) (denied otherCause : Bool)
      (hacc : debugRegisterAccess i = some acc) (hlisted : s.accessError i = true)
      (ht : t = s.failDebugAccess acc denied otherCause)

theorem errorOutcome_breakWatchAccess {n : Nat} {op : RegOp} (hi : i ∈ breakWatchRows n op acc) :
    ErrorOutcome s (s.breakWatchAccess op acc) i := by
  have hlisted : s.accessError i = s.breakWatchFails acc := accessError_of_breakWatchRow hi
  obtain ⟨hf, heq⟩ | ⟨hf, -, heq⟩ | ⟨hf, -, heq⟩ := breakWatchAccess_cases s op acc
  · exact .debugAccessFails acc _ _ (debugRegisterAccess_of_breakWatchRow hi) (hlisted.trans hf) heq
  · exact .completes (hlisted.trans hf) (by simp [heq])
  · exact .completes (hlisted.trans hf) (by simp [heq])

/-- By the outcomes of `exec`: the accesses by their rows of R201; no event ends in the error
response. -/
theorem exec_errorOutcome (h : exec i s = .next t) : ErrorOutcome s t i := by
  apply exec_cases (P := fun i u => ErrorOutcome s u i) (h := h)
  case readFails =>
    exact fun _ hd hp => .registerFails
      ((haveDopd_and_unpowered_eq s).trans ((registerInaccessible_iff s).2 ⟨hd, hp⟩)) rfl
  case read =>
    exact fun _ hc => .completes
      ((haveDopd_and_unpowered_eq s).trans ((registerInaccessible_eq_false_iff s).2 hc)) nofun
  case writeFails | edlarFails =>
    exact fun _ _ hr => .registerFails ((haveDopd_and_unpowered_eq s).trans hr) rfl
  case write | edlarIgnored =>
    exact fun _ _ hr => .completes ((haveDopd_and_unpowered_eq s).trans hr) nofun
  case edlar => exact fun _ _ hr _ _ => .completes ((haveDopd_and_unpowered_eq s).trans hr) nofun
  case oslarFails =>
    exact fun data acc hf =>
      .debugAccessFails acc _ _ rfl ((accessError_oslarWr data acc).trans hf) rfl
  case oslarIgnored | oslar =>
    exact fun data acc hf _ => .completes ((accessError_oslarWr data acc).trans hf) nofun
  case breakWatch => exact fun _ _ _ _ hi => errorOutcome_breakWatchAccess hi
  all_goals intros; exact .completes rfl nofun

/-- Settles O34, by how the step ended. -/
theorem errorResponseConditionsAndEffect : Obligations.ErrorResponseConditionsAndEffect := by
  intro i s t h
  cases exec_errorOutcome h with
  | completes hlisted hresponse =>
    exact ⟨iff_of_false hresponse (by simp [hlisted]), fun hr => absurd hr hresponse⟩
  | registerFails hlisted ht =>
    subst ht
    exact ⟨iff_of_true rfl hlisted, fun _ => ⟨rfl, rfl, id, fun _ => rfl⟩⟩
  | debugAccessFails acc denied otherCause hacc hlisted ht =>
    subst ht
    refine ⟨iff_of_true rfl hlisted, fun _ => ⟨rfl, rfl, ?_, fun hnone => ?_⟩⟩
    · exact sdadAfterFailure_keeps s acc denied otherCause
    · cases hacc.symm.trans hnone

end Sys2Proof.Machine
end

section
/-! PROOFS of the family 70_reset_and_hazards.md, part 1: the initial state (O55, O56). -/

namespace Sys2Proof.Machine

/-- Settles O55: R234 writes the constant that each clause about a core in reset asks for, and the core
is powered. -/
theorem invariantHoldsAtReset : Obligations.InvariantHoldsAtReset where
  stad_zero _ := rfl
  sr_in_reset _ := rfl
  not_halted_in_reset _ := rfl
  osdlr_zero_in_reset _ := rfl
  osdlr_zero _ := rfl
  entered_dlk _ := rfl
  off_corenpdrq := nofun

/-- Settles O56: the values as R234 writes them. -/
theorem resetValues : Obligations.ResetValues :=
  ⟨rfl, rfl, rfl, rfl, rfl, rfl, rfl, rfl, rfl, rfl, rfl, rfl⟩

end Sys2Proof.Machine
end

section
/-! PROOFS of the family 70_reset_and_hazards.md, part 2: which fields may be believed (O25). The order of
R237 is one equation for each place where the debugger stops; each regime of R139 reaches one or two. -/

namespace Sys2Proof.Machine

variable {s : State} {acc : AccessAttr} {f : Field} {c : Config} {v : Word}

/-! ### Where the debugger stops -/

theorem believable_of_pu_zero (hpu : v.getLsbD (fieldPos .pu) = false) :
    believable c v f = (f == .spd) := by
  simp only [believable, hpu, Bool.not_false, if_true]

theorem believable_of_dlk (hpu : v.getLsbD (fieldPos .pu) = true)
    (hdlk : (!c.v82 && v.getLsbD (fieldPos .dlk)) = true) :
    believable c v f = (f == .pu || f == .halted || f == .dlk) := by
  simp only [believable, hpu, hdlk, Bool.not_true, Bool.false_eq_true, if_false, if_true]

theorem believable_of_r (hpu : v.getLsbD (fieldPos .pu) = true)
    (hdlk : (!c.v82 && v.getLsbD (fieldPos .dlk)) = false)
    (hr : v.getLsbD (fieldPos .r) = true) :
    believable c v f = (f == .halted || f == .sr || f == .spd || f == .pu) := by
  simp only [believable, hpu, hdlk, hr, Bool.not_true, Bool.false_eq_true, if_false, if_true]

theorem believable_of_oslk (hpu : v.getLsbD (fieldPos .pu) = true)
    (hdlk : (!c.v82 && v.getLsbD (fieldPos .dlk)) = false)
    (hr : v.getLsbD (fieldPos .r) = false)
    (hoslk : (v.getLsbD (fieldPos .oslk) && !c.v84) = true) :
    believable c v f = (!(f == .spmad || f == .epmad) &&
      (c.oslarErrOnEdad || !(f == .sdad || f == .edad))) := by
  simp only [believable, hpu, hdlk, hr, hoslk, Bool.not_true, Bool.false_eq_true, if_false, if_true]

/-! ### Each regime of R139 -/

theorem getLsbD_readValue (s : State) (acc : AccessAttr) (f : Field) :
    (s.readValue acc).getLsbD (fieldPos f) = s.fieldBit acc f :=
  assembleWord_field _ f

/-- While the core is not powered the debugger stops at PU. -/
theorem fieldBit_eq_fieldFact_of_believable_unpowered (hp : s.env.power ≠ .on)
    (hh : s.cfg.haveDopd = false)
    (hb : believable s.cfg (s.readValue acc) f = true) : s.fieldBit acc f = s.fieldFact acc f := by
  have hpu : (s.readValue acc).getLsbD (fieldPos .pu) = false := by
    rw [getLsbD_readValue, fieldBit_pu_of_unpowered hp, hh]
  rw [believable_of_pu_zero hpu, beq_iff_eq] at hb
  subst hb
  exact (fieldBit_spd_of_unpowered hp).trans (spdFact_unpowered s hp).symm

/-- Under the Double Lock the debugger stops at PU or, where PU reads 1, at DLK. -/
theorem fieldBit_eq_fieldFact_of_believable_doubleLocked (hp : s.env.power = .on)
    (hr : s.env.inReset = false) (hd : s.doubleLocked = true) (hh : s.cfg.haveDopd = false)
    (hb : believable s.cfg (s.readValue acc) f = true) : s.fieldBit acc f = s.fieldFact acc f := by
  have hpu : s.fieldBit acc .pu = (!s.cfg.v82 && s.cfg.choiceA) := by
    rw [fieldBit_pu_of_doubleLocked hp hr hd, hh, Bool.false_or]
  cases hchoice : !s.cfg.v82 && s.cfg.choiceA with
  | false =>
    rw [believable_of_pu_zero ((getLsbD_readValue s acc .pu).trans (hpu.trans hchoice)),
      beq_iff_eq] at hb
    subst hb
    rw [fieldBit_spd_of_doubleLocked hp hd, hchoice]
    exact (spdFact_doubleLocked s hp hd).symm
  | true =>
    obtain ⟨hv82, -⟩ := Bool.and_eq_true_iff.1 hchoice
    have hv84 : s.cfg.v84 = false := by
      by_contra hv
      simp [s.cfg.v82_of_v84 (by simpa using hv)] at hv82
    have hdlk : s.fieldBit acc .dlk = true := by
      rw [fieldBit_dlk_of_doubleLocked hp hd, hchoice, hv84]; rfl
    rw [believable_of_dlk ((getLsbD_readValue s acc .pu).trans (hpu.trans hchoice))
      (by rw [getLsbD_readValue, hdlk, hv82]; rfl)] at hb
    simp only [Bool.or_eq_true, beq_iff_eq] at hb
    obtain (rfl | rfl) | rfl := hb
    · exact (hpu.trans hchoice).trans ((corePowered_iff s).2 hp).symm
    · rw [fieldBit_halted, if_pos hp]; rfl
    · rw [hdlk, State.fieldFact, hv82, hd]; rfl

/-- With the Double Lock unlocked PU and DLK let the debugger go on, to R in reset and to OSLK out of
it. -/
theorem fieldBit_eq_fieldFact_of_believable_unlocked (hp : s.env.power = .on)
    (hd : s.doubleLocked = false) (hR : s.inDoubleLockedReset = false)
    (hb : believable s.cfg (s.readValue acc) f = true) : s.fieldBit acc f = s.fieldFact acc f := by
  obtain ⟨hspd, hsr, hdlk⟩ := fieldBits_of_unlocked acc hp hd
  have hC : s.unknownC = false := unknownC_eq_false_iff.2 ⟨hp, hd⟩
  have hpu : s.fieldBit acc .pu = true := by rw [fieldBit_pu_of_unlocked hp hd, hR]; rfl
  have hr : s.fieldBit acc .r = s.env.inReset := by rw [fieldBit_r, hC, hR]; rfl
  have hvpu := (getLsbD_readValue s acc .pu).trans hpu
  have hvr := (getLsbD_readValue s acc .r).trans hr
  have hvdlk : (!s.cfg.v82 && (s.readValue acc).getLsbD (fieldPos .dlk)) = false := by
    rw [getLsbD_readValue, hdlk, Bool.and_false]
  cases hreset : s.env.inReset with
  | true =>
    rw [believable_of_r hvpu hvdlk (hvr.trans hreset)] at hb
    simp only [Bool.or_eq_true, beq_iff_eq] at hb
    obtain ((rfl | rfl) | rfl) | rfl := hb
    · rw [fieldBit_halted, if_pos hp]; rfl
    · exact hsr
    · exact hspd.trans (spdFact_unlocked s hp hd).symm
    · exact hpu.trans ((corePowered_iff s).2 hp).symm
  | false =>
    by_cases ho : s.env.oslk = false ∨ s.cfg.v84 = true
    · exact fieldBit_eq_fieldFact hp hreset hd ho f
    · obtain ⟨hlocked, hv⟩ : s.env.oslk = true ∧ s.cfg.v84 = false := by simpa using ho
      have hoslk : s.fieldBit acc .oslk = s.env.oslk := by
        simp [fieldBit_of_running hp hreset hd, State.osLockHides, State.fieldFact]
      rw [believable_of_oslk hvpu hvdlk (hvr.trans hreset)
        (by rw [getLsbD_readValue, hoslk, hlocked, hv]; rfl)] at hb
      have hhides : s.osLockHides f = false := by
        rw [← Bool.not_eq_true, osLockHides_iff_of_locked hlocked hv]
        rintro (rfl | rfl | ⟨he, rfl | rfl⟩)
        · cases hb
        · cases hb
        · simp [he] at hb
        · simp [he] at hb
      rw [fieldBit_of_running hp hreset hd, hhides]
      rfl

/-- R180, R181, R193: a core in reset is not double locked. -/
theorem not_inReset_of_doubleLocked (hi : s.Inv) (hd : s.doubleLocked = true) :
    s.env.inReset = false := by
  obtain ⟨-, hdlk, -⟩ := (doubleLocked_iff s).1 hd
  by_contra hr
  exact absurd (hdlk.symm.trans (hi.osdlr_zero_in_reset (by simpa using hr))) nofun

/-- Settles O25, by the regimes of R139. -/
theorem believableFieldsAreTrue : Obligations.BelievableFieldsAreTrue := by
  intro acc s t v hi hh hR h hv f hb
  obtain rfl := eq_readValue_of_exec h hv
  rw [getLsbD_readValue]
  by_cases hp : s.env.power = .on
  · cases hd : s.doubleLocked with
    | true =>
      exact fieldBit_eq_fieldFact_of_believable_doubleLocked hp (not_inReset_of_doubleLocked hi hd)
        hd hh hb
    | false => exact fieldBit_eq_fieldFact_of_believable_unlocked hp hd hR hb
  · exact fieldBit_eq_fieldFact_of_believable_unpowered hp hh hb

end Sys2Proof.Machine
end

section
/-! PROOFS of the family 70_reset_and_hazards.md, part 3: two reads in a row (O16), and the reads in a
Cold or Warm reset and after its release (O57, O58). A read of a running core tells every fact that the
OS Lock leaves readable, and the second read tells those of the state without its sticky bits. -/

namespace Sys2Proof.Machine

variable {s : State} {r : Response} {i : Instr} {acc acc' : AccessAttr} {f : Field}

/-! ### A read that tells the facts -/

/-- The response shows the fact of the state in every field that the OS Lock does not hide. -/
def Response.TellsFacts (r : Response) (s : State) (acc : AccessAttr) : Prop :=
  ∀ f, s.osLockHides f = false → r.field? f = some (s.fieldFact acc f)

/-- The fields that the OS Lock can hide (R127 to R131). -/
def accessErrorField : Field → Bool
  | .spmad | .epmad | .sdad | .edad => true
  | .stad | .etad | .sdr | .dlk | .oslk | .halted | .sr | .r | .spd | .pu => false

theorem osLockHides_of_not_accessErrorField (hf : accessErrorField f = false) :
    s.osLockHides f = false := by
  cases f with
  | spmad | epmad | sdad | edad => cases hf
  | stad | etad | sdr | dlk | oslk | halted | sr | r | spd | pu => exact Bool.and_false _

theorem Response.TellsFacts.field (h : r.TellsFacts s acc) (f : Field)
    (hf : accessErrorField f = false) : r.field? f = some (s.fieldFact acc f) :=
  h f (osLockHides_of_not_accessErrorField hf)

/-- R127. -/
theorem Response.TellsFacts.spmad (h : r.TellsFacts s acc)
    (ho : s.env.oslk = false ∨ s.cfg.v84 = true) : r.field? .spmad = some s.st.spmad :=
  h .spmad (osLockHides_of_readable ho _)

/-- R130: where OSLAR_EL1 writes fault the OS Lock does not hide SDAD. -/
theorem Response.TellsFacts.sdad (h : r.TellsFacts s acc)
    (ho : s.env.oslk = false ∨ s.cfg.v84 = true ∨ s.cfg.oslarErrOnEdad = true) :
    r.field? .sdad = some s.st.sdad := by
  refine h .sdad ?_
  obtain ho | ho | ho := ho <;> simp [State.osLockHides, ho]

/-- R137. -/
theorem Response.TellsFacts.spd (h : r.TellsFacts s acc) (hp : s.env.power = .on)
    (hd : s.doubleLocked = false) : r.field? .spd = some s.st.spd :=
  (h.field .spd rfl).trans (congrArg some (spdFact_unlocked s hp hd))

/-- R138. -/
theorem Response.TellsFacts.pu (h : r.TellsFacts s acc) (hp : s.env.power = .on) :
    r.field? .pu = some true :=
  (h.field .pu rfl).trans (congrArg some ((corePowered_iff s).2 hp))

/-! ### Two reads in a row -/

/-- The state with every sticky bit cleared (R141). -/
def State.withoutSticky (s : State) : State :=
  s.withSt
    { stad := false, sdr := false, spmad := false, sdad := false, sr := false, spd := false }

/-- STAD is 0 with and without TRBE once its bit is cleared (R124). -/
theorem Response.TellsFacts.stad_withoutSticky (h : r.TellsFacts s.withoutSticky acc) :
    r.field? .stad = some false :=
  (h.field .stad rfl).trans (congrArg some (Bool.and_false _))

theorem tellsFacts_readValue (acc : AccessAttr) (hp : s.env.power = .on)
    (hr : s.env.inReset = false) (hd : s.doubleLocked = false) :
    (Response.value (s.readValue acc)).TellsFacts s acc := by
  intro f hf
  refine (field?_readValue s acc f).trans (congrArg some ?_)
  exact (fieldBit_of_running hp hr hd f).trans (by rw [hf]; rfl)

/-- No fact depends on the response or the draws. -/
theorem Response.TellsFacts.of_respond_tick {r' : Response}
    (h : r.TellsFacts (s.respond r').tick acc) : r.TellsFacts s acc := by
  intro f hf
  refine (h f hf).trans ?_
  cases f <;> rfl

/-- Whoever reads a running core clears the sticky bits, and whoever reads next is told so. -/
theorem exists_two_reads_tellFacts (acc acc' : AccessAttr) (hp : s.env.power = .on)
    (hr : s.env.inReset = false) (hd : s.doubleLocked = false)
    (hs : s.softwareLocked acc = false) :
    ∃ t u, exec (.edprsrRd acc) s = .next t ∧ exec (.edprsrRd acc') t = .next u ∧
      t.response.TellsFacts s acc ∧ u.response.TellsFacts s.withoutSticky acc' := by
  have hfirst := exec_edprsrRd_clears hp hd hs
  rw [clearedLatches_of_running hr] at hfirst
  exact ⟨(s.withoutSticky.respond (.value (s.readValue acc))).tick, _, hfirst,
    exec_edprsrRd_permitted acc' _ (.inr hp), tellsFacts_readValue acc hp hr hd,
    Response.TellsFacts.of_respond_tick (tellsFacts_readValue acc' hp hr hd)⟩

/-- Settles O16. -/
theorem secondReadShowsNoStickyBit : Obligations.SecondReadShowsNoStickyBit := by
  intro acc acc' s hp hr hd hs
  obtain ⟨t, u, ht, hu, -, hsecond⟩ := exists_two_reads_tellFacts acc acc' hp hr hd hs
  exact ⟨u, (runSteps_cons _ _ _ _ ht).trans (runSteps_cons _ _ _ _ hu),
    hsecond.stad_withoutSticky, hsecond.field .sdr rfl, hsecond.field .sr rfl, hsecond.spd hp hd,
    hsecond.spmad, hsecond.sdad⟩

/-! ### In a reset and after its release -/

/-- R42: a reset that a running core enters with the Double Lock unlocked does not remember it. -/
theorem envInReset_resetEnteredDlk_of_running (hr : s.env.inReset = false)
    (hd : s.doubleLocked = false) : s.envInReset.resetEnteredDlk = false := by
  simp [State.envInReset, hr, hd]

/-- The read in a reset that the step `i` asserted, without entering it double locked: its determined
fields (R139). -/
theorem exists_read_in_reset {w : State} (acc : AccessAttr) (hi : exec i s = .next w)
    (hp : w.env.power = .on) (hr : w.env.inReset = true) (hd : w.doubleLocked = false)
    (he : w.env.resetEnteredDlk = false) :
    ∃ t, s.runSteps [i, .edprsrRd acc] = some t ∧
      t.response.field? .r = some true ∧ t.response.field? .sr = some w.st.sr ∧
      t.response.field? .spd = some w.st.spd ∧ t.response.field? .halted = some w.env.halted ∧
      t.response.field? .pu = some true ∧ t.response.field? .dlk = some false := by
  obtain ⟨t, ht, hfield⟩ := readInResetHidesTheRest acc w hp hr hd
  refine ⟨t, (runSteps_cons _ _ _ _ hi).trans (runSteps_cons _ _ _ _ ht), ?_, hfield .sr,
    hfield .spd, hfield .halted, ?_, hfield .dlk⟩
  · simp [hfield, he]
  · simp [hfield, he]

/-- The state after RESET_RELEASE (R182). -/
def State.released (s : State) : State :=
  (s.withEnv { s.env with inReset := false }).eventDone

/-- The two reads after the release of a reset that the step `i` asserted. -/
theorem exists_reads_after_reset {w : State} (acc : AccessAttr) (hi : exec i s = .next w)
    (hp : w.env.power = .on) (hr : w.env.inReset = true) (hd : w.doubleLocked = false)
    (hs : w.softwareLocked acc = false) :
    ∃ t u, s.runSteps [i, .resetRelease, .edprsrRd acc] = some t ∧
      exec (.edprsrRd acc) t = .next u ∧
      t.response.TellsFacts w.released acc ∧ u.response.TellsFacts w.released.withoutSticky acc := by
  obtain ⟨t, u, ht, hu, hfirst, hsecond⟩ :=
    exists_two_reads_tellFacts (s := w.released) acc acc hp rfl hd hs
  refine ⟨t, u, ?_, hu, hfirst, hsecond⟩
  rw [runSteps_cons _ _ _ _ hi, runSteps_cons _ _ _ _ (exec_resetRelease_of_inReset hp hr)]
  exact runSteps_cons _ _ _ _ ht

/-- Settles O57: a Cold reset clears OSDLR_EL1.DLK, so the Double Lock is unlocked from then on, and it
leaves the Software Lock. -/
theorem coldResetAsTheDebuggerSeesIt : Obligations.ColdResetAsTheDebuggerSeesIt := by
  intro acc s hp hs
  have hcold := exec_coldReset_of_powered hp
  refine ⟨fun hd hr => ?_, ?_⟩
  · exact exists_read_in_reset acc hcold hp rfl rfl (envInReset_resetEnteredDlk_of_running hr hd)
  · obtain ⟨t, u, ht, hu, hfirst, hsecond⟩ := exists_reads_after_reset acc hcold hp rfl rfl hs
    exact ⟨t, ht, hfirst.field .r rfl, hfirst.field .sr rfl, hfirst.spd hp rfl,
      hfirst.field .oslk rfl, hfirst.field .halted rfl, hfirst.pu hp, hfirst.field .sdr rfl,
      (hfirst.field .stad rfl).trans (congrArg some (Bool.and_false _)),
      fun hv => hfirst.spmad (.inr hv), fun hv => hfirst.sdad (.inr hv),
      u, hu, hsecond.field .r rfl, hsecond.field .sr rfl, hsecond.spd hp rfl,
      hsecond.field .oslk rfl, hsecond.field .halted rfl, hsecond.field .sdr rfl⟩

/-- Settles O58: of the stored bits a Warm reset writes SR and SDR alone, and it leaves both the OS Lock
and the Software Lock. -/
theorem warmResetAsTheDebuggerSeesIt : Obligations.WarmResetAsTheDebuggerSeesIt := by
  intro acc s hp hs
  have hwarm := exec_warmReset_of_powered hp
  refine ⟨fun hd hr => ?_, ?_⟩
  · exact exists_read_in_reset acc hwarm hp rfl rfl (envInReset_resetEnteredDlk_of_running hr hd)
  · obtain ⟨t, u, ht, hu, hfirst, hsecond⟩ := exists_reads_after_reset acc hwarm hp rfl rfl hs
    exact ⟨t, ht, hfirst.field .r rfl, hfirst.field .sr rfl, hfirst.spd hp rfl,
      hfirst.field .oslk rfl, hfirst.field .halted rfl, hfirst.pu hp, hfirst.field .sdr rfl,
      hfirst.field .stad rfl, hfirst.spmad, hfirst.sdad,
      u, hu, hsecond.field .r rfl, hsecond.field .sr rfl, hsecond.spd hp rfl,
      hsecond.field .oslk rfl, hsecond.field .halted rfl, hsecond.field .sdr rfl,
      hsecond.stad_withoutSticky, hsecond.spmad, hsecond.sdad⟩

end Sys2Proof.Machine
end
